-- ==== Sys2Proof/Word.lean ====
section
/-! DEFINITION. The only words the spec treats as bits: the bytes of telegrams (R176, R183, R184). -/

namespace Sys2Proof

/-- One byte of a telegram. -/
abbrev Byte := BitVec 8

end Sys2Proof
end

