-- ==== Sys2Proof/Config.lean ====
section
/-! DEFINITION. Constants of the part, and the values the spec leaves open (opaque: no proof can see them). -/

namespace Sys2Proof.Config

/-- R174: requests held. -/
def maxRequests : Nat := 8
/-- R177: reports held. -/
def maxReports : Nat := 64
/-- R64: call records held. -/
def maxCalls : Nat := 512
/-- R3: builds in the Announced Queue. -/
def maxAnnounced : Nat := 256
/-- R173, R162: where a receive error count stops. -/
def maxErrors : Nat := 65535
/-- R49: the coverage that means "this many pitches or more". -/
def maxCoverage : Nat := 4095
/-- R52: the greatest due time, FFFFFFFEh. -/
def maxDue : Nat := 4294967294
/-- 0.6.1: plant time is a 32-bit count of tenths. -/
def plantTimeModulus : Nat := 4294967296
/-- R173: the greatest body length of a frame. -/
def maxBody : Nat := 1024

/-! R176 gives no byte for "none" in a one-byte code or a yes/no item, none for "none" in a two-byte
coverage, and none for CONTINUOUS. Free (safe): log entry 4. -/

/-- The byte of an absent state, mode, class, event, cause, outcome or code. -/
opaque noneCode : Nat
/-- The byte of an absent yes/no item. -/
opaque noneYesNo : Nat
/-- The two bytes of an absent coverage. -/
opaque noneCoverage : Nat
/-- The byte that stands for CONTINUOUS in a cycle count. -/
opaque continuousCode : Nat

end Sys2Proof.Config
end

