-- ==== Sys2Proof/Syntax.lean ====
section
/-! DEFINITION. The commands of the block: one constructor of Instr per row of spec/opcode_table.json. -/

namespace Sys2Proof

/-- What a request's body decodes to. `malformed`: the body matches no layout of the request (FORMAT).
`outOfRange`: a value that chooses between rows (SERVICE off/on, RESTART FULL/SHIFT) names none of them (RANGE). -/
inductive Operand (α : Type) where
  | ok (a : α)
  | malformed
  | outOfRange
  deriving DecidableEq, Repr

/-- A build: serial and model code (R2). -/
structure Build where
  serial : Nat
  model : Nat
  deriving DecidableEq, Repr

/-- A cycle request: a count, or CONTINUOUS (R93). -/
inductive CycleCount where
  | times (n : Nat)
  | continuous
  deriving DecidableEq, Repr

/-- The two field links (09). -/
inductive Link where
  | train
  | rack
  deriving DecidableEq, Repr

/-- What the read-back of a store finds (R179). -/
inductive ReadBack where
  | matched
  | differs
  | incomplete
  deriving DecidableEq, Repr

/-- R14. -/
structure LineSetArgs where
  stations : Nat
  takt : Nat
  deriving DecidableEq, Repr

/-- R22, defined = yes: the definition fields as they stand in the request. `rack` is the terminal address, `none` for none. -/
structure SlotDefArgs where
  slot : Nat
  kind : Nat
  partKey : Nat
  station : Nat
  loop : Nat
  stop : Nat
  rack : Option Nat
  channel : Nat
  q : Nat
  p : Nat
  size : Nat
  k : Nat
  lowMark : Nat
  safety : Nat
  u16 : Nat
  usage : List (Nat × Nat)
  deriving DecidableEq, Repr

/-- R25: a slot id and a state value. -/
structure SlotStateArgs where
  slot : Nat
  value : Nat
  deriving DecidableEq, Repr

/-- R35: a slot id and a counted value. -/
structure SlotCountArgs where
  slot : Nat
  value : Nat
  deriving DecidableEq, Repr

/-- R70: a slot id and a container count. -/
structure ExpediteArgs where
  slot : Nat
  count : Nat
  deriving DecidableEq, Repr

/-- R81: the four enables as sent, in class order. -/
structure MaskArgs where
  expedite : Nat
  seq : Nat
  pull : Nat
  cover : Nat
  deriving DecidableEq, Repr

/-- R89, defined = yes. -/
structure LoopDefArgs where
  loop : Nat
  stops : Nat
  wagons : Nat
  window : Nat
  pick : Nat
  period : Nat
  lead : Nat
  source : Nat
  dispatch : Nat
  ret : Nat
  gates : List (List Nat)
  deriving DecidableEq, Repr

/-- R93. -/
structure CycleArgs where
  loop : Nat
  count : CycleCount
  deriving DecidableEq, Repr

/-- R112: a train id, and with defined = yes (`some`) a loop id or none. -/
structure TrainDefArgs where
  train : Nat
  define : Option (Option Nat)
  deriving DecidableEq, Repr

/-- R113: the fleet settings, in a request and in the part. -/
structure Fleet where
  chargers : Nat
  startLevel : Nat
  endLevel : Nat
  gap : Nat
  coupleLimit : Nat
  deriving DecidableEq, Repr

/-- R115. -/
structure AssignArgs where
  train : Nat
  loop : Option Nat
  deriving DecidableEq, Repr

/-- R154. -/
structure HotArgs where
  train : Nat
  slot : Nat
  count : Nat
  deriving DecidableEq, Repr

/-- R138: the definition items of a zone: capacity, N and W. -/
structure ZoneDefn where
  capacity : Nat
  count : Nat
  span : Nat
  deriving DecidableEq, Repr

/-- R140: a zone id, and with defined = yes (`some`) its definition. -/
structure ZoneDefArgs where
  zone : Nat
  define : Option ZoneDefn
  deriving DecidableEq, Repr

/-- R141. -/
structure ZoneLimitsArgs where
  gateLimit : Nat
  grantLimit : Nat
  deriving DecidableEq, Repr

/-- R149. -/
structure ZoneClearArgs where
  zone : Nat
  train : Nat
  deriving DecidableEq, Repr

/-- R163. -/
structure LinkSetArgs where
  train : Nat
  rack : Nat
  deriving DecidableEq, Repr

/-- The commands. A request's row carries the tag and the decoded body; a clocked event names its object;
a frame is carried as its bytes. `straddles`: the frame's reception began before the last restart (R181). -/
inductive Instr where
  | powerUp
  | lineFrameReceived (bytes : List Byte) (straddles : Bool)
  | lineFrameGap (straddles : Bool)
  | unknownKind (tag kind : Byte)
  | lineSet (tag : Byte) (a : Operand LineSetArgs)
  | lineMode (tag : Byte) (m : Operand Nat)
  | announce (tag : Byte) (builds : Operand (List Build))
  | withdraw (tag : Byte) (serial : Operand Nat)
  | advance (tag : Byte) (gap : Operand (Option Nat))
  | slotDef (tag : Byte) (a : Operand SlotDefArgs)
  | slotUndefine (tag : Byte) (slot : Operand Nat)
  | slotState (tag : Byte) (a : Operand SlotStateArgs)
  | slotCount (tag : Byte) (a : Operand SlotCountArgs)
  | slotQuery (tag : Byte) (slot : Operand Nat)
  | expedite (tag : Byte) (a : Operand ExpediteArgs)
  | cancel (tag : Byte) (call : Operand Nat)
  | classMask (tag : Byte) (a : Operand MaskArgs)
  | seqFlush (tag : Byte) (slot : Operand Nat)
  | callQueryCall (tag : Byte) (call : Operand Nat)
  | callQuerySlot (tag : Byte) (slot : Operand Nat)
  | loopDef (tag : Byte) (a : Operand LoopDefArgs)
  | loopUndefine (tag : Byte) (loop : Operand Nat)
  | cycle (tag : Byte) (a : Operand CycleArgs)
  | cycleStop (tag : Byte) (loop : Operand Nat)
  | windowOpen (tag : Byte) (loop : Operand Nat)
  | windowClose (tag : Byte) (loop : Operand Nat)
  | loopQuery (tag : Byte) (loop : Operand Nat)
  | windowExpiry (loop : Nat)
  | windowOpenTime (loop : Nat)
  | deferredClose (loop : Nat) (dissolved : Bool)
  | pickExpiry (loop : Nat)
  | couplingBegin (loop : Nat)
  | trainDef (tag : Byte) (a : Operand TrainDefArgs)
  | fleetSettings (tag : Byte) (a : Operand Fleet)
  | trainAssign (tag : Byte) (a : Operand AssignArgs)
  | release (tag : Byte) (train : Operand Nat)
  | cut (tag : Byte) (train : Operand Nat)
  | retRun (tag : Byte) (train : Operand Nat)
  | abandon (tag : Byte) (train : Operand Nat)
  | charge (tag : Byte) (train : Operand Nat)
  | serviceOff (tag : Byte) (train : Operand Nat)
  | serviceOn (tag : Byte) (train : Operand Nat)
  | dismiss (tag : Byte) (train : Operand Nat)
  | hotcall (tag : Byte) (a : Operand HotArgs)
  | noteRead (tag : Byte) (train : Operand Nat)
  | trainQuery (tag : Byte) (train : Operand Nat)
  | zoneDef (tag : Byte) (a : Operand ZoneDefArgs)
  | zoneLimits (tag : Byte) (a : Operand ZoneLimitsArgs)
  | zoneClear (tag : Byte) (a : Operand ZoneClearArgs)
  | zoneQuery (tag : Byte) (zone : Operand Nat)
  | zoneGrant (zone : Nat)
  | grantAgeOut (zone : Nat)
  | grantLapse (zone train : Nat)
  | gateStall (zone train : Nat)
  | coupleLimit (train : Nat)
  | departureGo
  | chargerGranted
  | store (tag : Byte) (a : Operand Unit)
  | storeDone (outcome : ReadBack)
  | restartFull (tag : Byte) (a : Operand Unit)
  | restartShift (tag : Byte) (a : Operand Unit)
  | causeRead (tag : Byte) (clear : Operand (Option Nat))
  | status (tag : Byte) (a : Operand Unit)
  | linkSet (tag : Byte) (a : Operand LinkSetArgs)
  | reportSend
  | pollExchange (link : Link)
  | replyTimeout (link : Link)
  | replyGap (link : Link)
  | fieldReplyBad (link : Link)
  | strayFieldFrame (link : Link) (bytes : List Byte)
  | trainReply (bytes : List Byte)
  | rackReply (bytes : List Byte)
  | overLengthFrame (length : Nat) (straddles : Bool)
  | powerLoss
  deriving DecidableEq, Repr

end Sys2Proof
end

