-- ==== Sys2Proof/Machine/State.lean ====
section
/-! DEFINITION. Everything the spec gives the part to hold, as plain data, and the state after power-up. -/

namespace Sys2Proof.Machine

/-! ## Tables: records held by id, in rising id order; an id without an entry is an undefined record. -/

/-- A table of records. -/
abbrev Table (α : Type) := List (Nat × α)

/-! ## Telegram items (R176) -/

/-- One item of a body, by the type R176 gives it; `none` is the item's "none, held or unknown". -/
inductive Item where
  | time (t : Option Nat)       -- plant time, due time, build serial: 4 bytes
  | half (n : Option Nat)       -- slot id, call id, load id, part key, pieces, F and the like: 2 bytes
  | room (r : Int)              -- room R: 2 bytes, signed
  | duration (n : Nat)          -- 2 bytes
  | small (n : Option Nat)      -- train, loop, zone, hot id, station, stop, leg, other count, level: 1 byte
  | coverage (n : Option Nat)   -- Cr, Cp, T, due coverage: 2 bytes
  | code (n : Option Nat)       -- state, mode, class, event, cause, outcome, reason: 1 byte
  | yesNo (b : Option Bool)     -- 1 byte
  | flags (bits : List Bool)    -- set of flags: 1 byte, least significant bit first
  | count (n : Nat)             -- the entry count of a list; its entries follow as items
  | cycles (c : Option CycleCount) -- a cycle request: count, CONTINUOUS or none: 1 byte
  deriving DecidableEq, Repr

/-- A reply, report or query body. -/
abbrev Body := List Item

/-- Refusal reasons (R175). -/
inductive Reason where
  | unknownKind | format | range | undefined | mode | state | busy | full | duplicate | tooLate | noRoom | boxFull
  | shelfFull | order | storing
  deriving DecidableEq, Repr

/-- Report kinds (R183). -/
inductive ReportKind where
  | callRaised | callDone | callTrimmed | listFull | slotFlag | shortage | seqBreak | window | load
  | couple | depart | stop | drop | runEnd | charge | zone | link | hot | note | storeDone | restart
  deriving DecidableEq, Repr

/-- A report: kind, plant time of the causing event, items (R177). -/
structure Report where
  kind : ReportKind
  time : Nat
  items : Body
  deriving DecidableEq, Repr

/-- What a reply says (R175). -/
inductive Answer where
  | accept (body : Body)
  | refuse (reason : Reason)
  deriving DecidableEq, Repr

/-- A reply: the kind and tag of its request, and the answer (R175). -/
structure Reply where
  kind : Byte
  tag : Byte
  answer : Answer
  deriving DecidableEq, Repr

/-- A telegram whose sending has begun: a reply, a report with its gap flag, or a poll with its address and body. -/
inductive Telegram where
  | reply (r : Reply)
  | report (gap : Bool) (r : Report)
  | poll (link : Link) (address : Nat) (body : List Byte)
  deriving DecidableEq, Repr

/-- A request as received: kind, tag, body (R173, R183). -/
structure Request where
  kind : Byte
  tag : Byte
  body : List Byte
  deriving DecidableEq, Repr

/-! ## Sequence Tracker (01) -/

/-- R16. -/
inductive LineMode where
  | run | pause | closed
  deriving DecidableEq, Repr

/-! ## Slot Table (02) -/

inductive SlotKind where
  | bulk | seq
  deriving DecidableEq, Repr

inductive SlotState where
  | active | suspended
  deriving DecidableEq, Repr

/-- R20: the rack terminal address and the channel there. -/
structure RackPlace where
  address : Nat
  channel : Nat
  deriving DecidableEq, Repr

/-- R20: the definition fields of a slot, its state included. -/
structure SlotDefn where
  state : SlotState
  kind : SlotKind
  partKey : Nat
  station : Nat
  loop : Nat
  stop : Nat
  rack : Option RackPlace
  q : Nat
  p : Nat
  size : Nat
  k : Nat
  lowMark : Nat
  safety : Nat
  u16 : Nat
  usage : List (Nat × Nat)
  deriving DecidableEq, Repr

/-- R20: the flags of a slot. -/
structure SlotFlags where
  low : Bool
  risk : Bool
  starved : Bool
  oversupplied : Bool
  deriving DecidableEq, Repr

/-- R20: a defined slot; `owed` is the Call List's count of owed pulls of the slot (R69). -/
structure Slot where
  dfn : SlotDefn
  counted : Bool
  f : Nat
  h : Nat
  setPointer : Option Nat
  pullBase : Option Nat
  tallyBase : Option Nat
  cr : Nat
  cp : Nat
  trigger : Nat
  due : Nat
  flags : SlotFlags
  owed : Nat
  deriving DecidableEq, Repr

/-- R43: the causes a SLOT-FLAG report names. -/
inductive Cause where
  | consumption | drop | hot | pull | tally | coverage | calls | definition | seqPull
  deriving DecidableEq, Repr

/-! ## Call List (04) -/

/-- R65: the classes, in level order. -/
inductive CallClass where
  | expedite | seq | pull | cover
  deriving DecidableEq, Repr

/-- R62. -/
inductive CallState where
  | opn | planned | loaded | void
  deriving DecidableEq, Repr

/-- R61: a call record; its id is its key in the list. `set`: the set first and last serial of a SEQ call.
`dropped`: containers of the call dropped so far, over every loading (reported by R84). -/
structure Call where
  slot : Nat
  cls : CallClass
  containers : Nat
  pieces : Nat
  set : Option (Nat × Nat)
  broken : Bool
  raisedAt : Nat
  due : Nat
  state : CallState
  load : Option Nat
  returned : Bool
  dropped : Nat
  deriving DecidableEq, Repr

/-- R81: one enable per class. -/
structure ClassMask where
  expedite : Bool
  seq : Bool
  pull : Bool
  cover : Bool
  deriving DecidableEq, Repr

/-! ## Loops and loads (05) -/

/-- R104, R106, R123, R124. -/
inductive DropStatus where
  | pending | go | hold | dropped | carried | void
  deriving DecidableEq, Repr

/-- R104: a drop; `lateRep`, `orderRep` are the marks of R124. -/
structure Drop where
  index : Nat
  call : Nat
  slot : Nat
  stop : Nat
  wagon : Nat
  unit : Nat
  size : Nat
  pieces : Nat
  status : DropStatus
  lateRep : Bool
  orderRep : Bool
  deriving DecidableEq, Repr

/-- R104: a load record, with the figures of its close that R108 reports (DESIGN CHOICE, unsafe: log entry 8). -/
structure Load where
  id : Nat
  loop : Nat
  closedAt : Nat
  drops : List Drop
  eligible : Nat
  placed : Nat
  containers : Nat
  units : Nat
  deriving DecidableEq, Repr

inductive Source where
  | internal | external
  deriving DecidableEq, Repr

inductive Dispatch where
  | auto | held
  deriving DecidableEq, Repr

inductive Return where
  | auto | hold
  deriving DecidableEq, Repr

/-- R87: the definition fields of a loop. -/
structure LoopDefn where
  stops : Nat
  gates : List (List Nat)
  wagons : Nat
  window : Nat
  pick : Nat
  period : Nat
  lead : Nat
  source : Source
  dispatch : Dispatch
  ret : Return
  deriving DecidableEq, Repr

inductive WindowState where
  | shut | opn | closeWait
  deriving DecidableEq, Repr

/-- R105: the load slot; PICKING holds the pick expiry. -/
inductive LoadSlot where
  | empty
  | picking (l : Load) (expiry : Nat)
  | staged (l : Load)
  deriving DecidableEq, Repr

/-- R92: a defined loop. -/
structure LoopRec where
  dfn : LoopDefn
  window : WindowState
  expiry : Option Nat
  lastOpen : Option Nat
  active : Option CycleCount
  waiting : List CycleCount
  slot : LoadSlot
  deriving DecidableEq, Repr

/-! ## Trains (06) and their boxes (08) -/

/-- R114, in the order of its table. -/
inductive TrainState where
  | unplaced | parked | chargeWait | charging | coupling | ready | onRun | atStop | holding | returning | outOfService
  deriving DecidableEq, Repr

/-- R111: a location, as reported. -/
inductive Location where
  | home | leg (k : Nat) | stop (k : Nat) | unknown
  deriving DecidableEq, Repr

/-- R111: the place of a run. -/
inductive Place where
  | leg (k : Nat) | stop (k : Nat)
  deriving DecidableEq, Repr

/-- R153: where a hot order stands on the train, in the order of its list. -/
inductive HotPlace where
  | box | shelf
  deriving DecidableEq, Repr

/-- R153: a hot order. -/
structure Hot where
  id : Nat
  slot : Nat
  containers : Nat
  pieces : Nat
  acceptedAt : Nat
  takenAt : Option Nat
  place : HotPlace
  deriving DecidableEq, Repr

/-- R153: how an order left the box. -/
inductive HotWay where
  | taken | abandoned
  deriving DecidableEq, Repr

/-- R153: the last hot order: a copy of the order as it left the box. -/
structure LastHot where
  order : Hot
  leftAt : Nat
  way : HotWay
  deriving DecidableEq, Repr

/-- R159: a note; `code` is the code as received. -/
structure Note where
  number : Nat
  code : Nat
  slot : Option Nat
  takenAt : Nat
  deriving DecidableEq, Repr

/-- R160: the last note, with the plant time of its read. -/
structure LastNote where
  note : Note
  readAt : Nat
  deriving DecidableEq, Repr

/-- R142: the gate wanted last judged and the leg it was judged against. -/
structure Wish where
  zone : Option Nat
  leg : Option Nat
  deriving DecidableEq, Repr

/-- R111, R153, R159, R142: a defined train. -/
structure Train where
  loop : Option Nat
  state : TrainState
  place : Option Place
  leftHome : Bool
  location : Location
  leg : Option Nat
  battery : Option Nat
  load : Option Load
  coupledAt : Option Nat
  lateRep : Bool
  earlyRep : Bool
  hotBox : Option Hot
  shelf : List Hot
  lastHot : Option LastHot
  noteBox : Option Note
  lastNoteNo : Option Nat
  lastNote : Option LastNote
  wish : Wish
  deriving DecidableEq, Repr

/-! ## Zones (07) -/

/-- R138: an occupant; `inside` tells INSIDE from GRANTED. -/
structure Occupant where
  train : Nat
  inside : Bool
  grantedAt : Nat
  confirmedAt : Option Nat
  deriving DecidableEq, Repr

/-- R138: a wait queue entry. -/
structure Waiter where
  train : Nat
  joinedAt : Nat
  stalled : Bool
  deriving DecidableEq, Repr

/-- R138: a defined zone. -/
structure Zone where
  dfn : ZoneDefn
  occupants : List Occupant
  queue : List Waiter
  history : List Nat
  intruders : List Nat
  deriving DecidableEq, Repr

/-! ## Field links (09) -/

/-- R162: a terminal record; `boxShown` is "note box shown", full or empty. -/
structure Terminal where
  alive : Bool
  misses : Nat
  lastGood : Option Nat
  boxShown : Bool
  deriving DecidableEq, Repr

/-- R162, R163: one field link. `lastAddr`: the address polled last; `exchange`: the terminal of the exchange in
progress; `sincePoll`: milliseconds since the start of the last poll; `pollShown`: the note-box-full flag of the last poll, which its reply
is judged by (R159), whatever has become of the terminal record since. -/
structure FieldLink where
  interval : Nat
  terminals : Table Terminal
  lastAddr : Option Nat
  exchange : Option Nat
  sincePoll : Option Nat
  pollShown : Bool
  errors : Nat
  deriving DecidableEq, Repr

/-! ## Configuration Store (10) -/

/-- R179: the contents of a configuration image. -/
structure Image where
  stations : Nat
  takt : Nat
  slots : Table SlotDefn
  mask : ClassMask
  loops : Table LoopDefn
  trains : Table (Option Nat)
  fleet : Fleet
  zones : Table ZoneDefn
  gateLimit : Nat
  grantLimit : Nat
  trainPoll : Nat
  rackPoll : Nat
  deriving DecidableEq, Repr

/-- R182: the restart cause set. -/
structure Causes where
  power : Bool
  full : Bool
  shift : Bool
  image : Bool
  deriving DecidableEq, Repr

/-- R179, R180: the state of the stored image. -/
inductive ImageState where
  | good | bad
  deriving DecidableEq, Repr

/-- R179: the store state; STORING holds the copy being written. -/
inductive StoreState where
  | idle
  | storing (copy : Image)
  deriving DecidableEq, Repr

/-- The whole part (INVENTORY.md, State). -/
structure State where
  plantTime : Nat
  msPart : Nat
  stations : Nat
  takt : Nat
  mode : LineMode
  lineArray : List (Option Build)
  announced : List Build
  highest : Option Nat
  slots : Table Slot
  calls : Table Call
  nextCall : Nat
  fullReported : Bool
  mask : ClassMask
  loops : Table LoopRec
  nextLoad : Nat
  trains : Table Train
  fleet : Fleet
  homeQ : List Nat
  departQ : List Nat
  chargeQ : List Nat
  lastGo : Option Nat
  nextHot : Nat
  zones : Table Zone
  gateLimit : Nat
  grantLimit : Nat
  trainLink : FieldLink
  rackLink : FieldLink
  requestQueue : List Request
  reportQueue : List Report
  gap : Bool
  lineErrors : Nat
  image : Image
  imageCheck : Bool
  badMark : Bool
  imageState : ImageState
  store : StoreState
  causes : Causes
  sent : List Telegram
  pending : List Instr
  deriving DecidableEq, Repr

/-- No command stops the part with a fault: bad inputs are refused with a reply, clamped, ignored or counted
(0.6.6, R164, R175). The type has no constructor. -/
inductive Fault where
  deriving DecidableEq, Repr

/-- Why a step answers without a next state. -/
inductive Refusal where
  /-- Raised only by an arm of exec whose command has no meaning yet (safe: nothing is claimed of it). No arm raises it. -/
  | notModelled (mnemonic : String)
  deriving DecidableEq, Repr

/-- R180: the configuration of a part whose image is bad: nothing defined, the defaults, every class enabled. -/
def Image.default : Image where
  stations := 1
  takt := 600
  slots := []
  mask := ⟨true, true, true, true⟩
  loops := []
  trains := []
  fleet := ⟨1, 25, 90, 30, 120⟩
  zones := []
  gateLimit := 90
  grantLimit := 30
  trainPoll := 250
  rackPoll := 250

/-- R172: a field link after a restart. -/
def FieldLink.fresh (interval : Nat) : FieldLink := ⟨interval, [], none, none, none, false, 0⟩

/-- The part right after power-up with a store that was never written, so that the image is BAD (R180; DESIGN CHOICE, unsafe: log entry 1).
The report queue holds the RESTART report of kind POWER (R181), its items restart kind, cause set, image state. -/
def State.reset : State where
  plantTime := 0
  msPart := 0
  stations := 1
  takt := 600
  mode := .closed
  lineArray := [none]
  announced := []
  highest := none
  slots := []
  calls := []
  nextCall := 1
  fullReported := false
  mask := ⟨true, true, true, true⟩
  loops := []
  nextLoad := 1
  trains := []
  fleet := ⟨1, 25, 90, 30, 120⟩
  homeQ := []
  departQ := []
  chargeQ := []
  lastGo := none
  nextHot := 1
  zones := []
  gateLimit := 90
  grantLimit := 30
  trainLink := .fresh 250
  rackLink := .fresh 250
  requestQueue := []
  reportQueue := [⟨.restart, 0, [.code (some 0), .flags [true, false, false, true], .code (some 1)]⟩]
  gap := false
  lineErrors := 0
  image := .default
  imageCheck := false
  badMark := false
  imageState := .bad
  store := .idle
  causes := ⟨true, false, false, true⟩
  sent := []
  pending := []

end Sys2Proof.Machine
end

