-- ==== Sys2Proof/Machine/Ops.lean ====
section
/-! DEFINITION. The named operations over tables, queues, reports and replies that every command is built from. -/

namespace Sys2Proof.Machine

variable {α β : Type}

/-! ## Tables -/

/-- The record with id k, none when it is undefined. -/
def tget : Table α → Nat → Option α
  | [], _ => none
  | (i, a) :: t, k => if i = k then some a else tget t k

/-- The record with id k changed by f; nothing where it is undefined. -/
def tmod (t : Table α) (k : Nat) (f : α → α) : Table α :=
  t.map fun e => if e.1 = k then (e.1, f e.2) else e

/-- The record with id k removed. -/
def tdel (t : Table α) (k : Nat) : Table α :=
  t.filter fun e => e.1 != k

/-- The record with id k set, its place by rising id. -/
def tset : Table α → Nat → α → Table α
  | [], k, a => [(k, a)]
  | (i, b) :: t, k, a =>
    if k < i then (k, a) :: (i, b) :: t else if k = i then (k, a) :: t else (i, b) :: tset t k a

/-- Every record mapped, ids kept. -/
def tmap (f : Nat → α → β) (t : Table α) : Table β :=
  t.map fun e => (e.1, f e.1 e.2)

/-- The ids of a table. -/
def tkeys (t : Table α) : List Nat := t.map (·.1)

/-- Ids strictly rising: the one form of a table that makes equal tables equal data. -/
def tsorted : Table α → Bool
  | [] => true
  | [_] => true
  | a :: b :: t => decide (a.1 < b.1) && tsorted (b :: t)

/-- Whether the record is defined. -/
def tdefined (t : Table α) (k : Nat) : Bool := (tget t k).isSome

/-! ## Numbers -/

/-- ceil(a/b) on naturals (0.6.2). -/
def ceilDiv (a b : Nat) : Nat := (a + b - 1) / b

/-- A count that stops at 65535 (R162, R173). -/
def raiseCount (n : Nat) : Nat := min Config.maxErrors (n + 1)

/-- Whether plant time `now` has reached a time. -/
def reached (now t : Nat) : Bool := decide (t ≤ now)

/-- The id after n in 1 to top (R63, R104, R153). -/
def stepId (top n : Nat) : Nat := if n < top then n + 1 else 1

/-- The first id from n on that is not in use; `fuel` exceeds the number of ids in use. -/
def freeId (top : Nat) (used : List Nat) : Nat → Nat → Nat
  | 0, n => n
  | fuel + 1, n => if used.contains n then freeId top used fuel (stepId top n) else n

/-- Insertion by a strict order; equal elements keep their order. -/
def insertBy (lt : α → α → Bool) (x : α) : List α → List α
  | [] => [x]
  | y :: ys => if lt x y then x :: y :: ys else y :: insertBy lt x ys

/-- Stable insertion sort by a strict order. -/
def sortBy (lt : α → α → Bool) (l : List α) : List α :=
  l.foldl (fun acc x => insertBy lt x acc) []

/-- The 0-based place of x in a queue. -/
def placeIn (q : List Nat) (x : Nat) : Option Nat := q.findIdx? (· == x)

/-- A list without repeats, first occurrences kept. -/
def dedup (l : List Nat) : List Nat :=
  l.foldl (fun acc x => if acc.contains x then acc else acc ++ [x]) []

/-! ## Reports and replies -/

/-- R177: a report joins the queue; at 64 the oldest is dropped and the gap flag is set. -/
def State.report (s : State) (kind : ReportKind) (items : Body) : State :=
  if s.reportQueue.length < Config.maxReports then
    { s with reportQueue := s.reportQueue ++ [⟨kind, s.plantTime, items⟩] }
  else
    { s with reportQueue := s.reportQueue.tail ++ [⟨kind, s.plantTime, items⟩], gap := true }

/-- R175: a reply begins sending. -/
def State.reply (s : State) (kind tag : Byte) (a : Answer) : State :=
  { s with sent := s.sent ++ [.reply ⟨kind, tag, a⟩] }

/-- R174: the request in hand leaves the request queue, where it is the queue's head. -/
def State.leaveQueue (s : State) (kind tag : Byte) : State :=
  match s.requestQueue with
  | r :: rest => if r.kind = kind && r.tag = tag then { s with requestQueue := rest } else s
  | [] => s

/-! ## Record updates -/

def State.modSlot (s : State) (id : Nat) (f : Slot → Slot) : State := { s with slots := tmod s.slots id f }
def State.modCall (s : State) (id : Nat) (f : Call → Call) : State := { s with calls := tmod s.calls id f }
def State.modLoop (s : State) (id : Nat) (f : LoopRec → LoopRec) : State := { s with loops := tmod s.loops id f }
def State.modTrain (s : State) (id : Nat) (f : Train → Train) : State := { s with trains := tmod s.trains id f }
def State.modZone (s : State) (id : Nat) (f : Zone → Zone) : State := { s with zones := tmod s.zones id f }

/-- The field link named. -/
def State.link (s : State) : Link → FieldLink
  | .train => s.trainLink
  | .rack => s.rackLink

def State.setLink (s : State) (l : Link) (f : FieldLink) : State :=
  match l with
  | .train => { s with trainLink := f }
  | .rack => { s with rackLink := f }

/-- The part key of a slot, none when it is undefined. -/
def State.partKey (s : State) (slot : Nat) : Option Nat := (tget s.slots slot).map (·.dfn.partKey)

/-- R52: a due time as reported: held outside RUN. -/
def State.dueShown (s : State) (due : Nat) : Option Nat := if s.mode = .run then some due else none

/-- R179: the configuration as held, which STORE copies and a shift restart keeps. -/
def State.config (s : State) : Image where
  stations := s.stations
  takt := s.takt
  slots := tmap (fun _ sl => sl.dfn) s.slots
  mask := s.mask
  loops := tmap (fun _ l => l.dfn) s.loops
  trains := tmap (fun _ t => t.loop) s.trains
  fleet := s.fleet
  zones := tmap (fun _ z => z.dfn) s.zones
  gateLimit := s.gateLimit
  grantLimit := s.grantLimit
  trainPoll := s.trainLink.interval
  rackPoll := s.rackLink.interval

/-- R179: whether a store is in progress. -/
def State.storing (s : State) : Bool :=
  match s.store with
  | .idle => false
  | .storing _ => true

end Sys2Proof.Machine
end

