-- ==== Sys2Proof/Machine/Frame.lean ====
section
/-! DEFINITION. Bytes: the frame and its check (R183), and the encoding of items, replies and reports (R175, R176, R177). -/

namespace Sys2Proof.Machine

/-! ## Bytes -/

def byte (n : Nat) : Byte := BitVec.ofNat 8 n
/-- R176: multi-byte values most significant byte first; the length field of a frame and the field snapshots likewise (DEDUCED, unsafe: log
entry 6). -/
def bytes2 (n : Nat) : List Byte := [byte (n / 256), byte n]
def bytes4 (n : Nat) : List Byte := [byte (n / 16777216), byte (n / 65536), byte (n / 256), byte n]
def nat2 (a b : Byte) : Nat := a.toNat * 256 + b.toNat
def nat4 (a b c d : Byte) : Nat := nat2 a b * 65536 + nat2 c d
/-- The value of a byte that shows "none" as FFh (R176). -/
def optByte (b : Byte) : Option Nat := if b = 0xFF#8 then none else some b.toNat
/-- One bit per member, least significant bit first. -/
def bitSet : List Bool → Nat
  | [] => 0
  | b :: bs => (if b then 1 else 0) + 2 * bitSet bs

/-! ## The check (R183): CRC-16, generator x^16 + x^12 + x^5 + 1, register FFFFh, most significant bit first -/

def crcBit (c : BitVec 16) : BitVec 16 := if c.msb then (c <<< 1) ^^^ 0x1021#16 else c <<< 1

def crcByte (c : BitVec 16) (b : Byte) : BitVec 16 :=
  crcBit (crcBit (crcBit (crcBit (crcBit (crcBit (crcBit (crcBit (c ^^^ (b.zeroExtend 16 <<< 8)))))))))

def crc16 (bs : List Byte) : BitVec 16 := bs.foldl crcByte 0xFFFF#16

/-- R183: a frame of the given address, kind, tag and body. -/
def frameBytes (address kind tag : Byte) (body : List Byte) : List Byte :=
  let inner := bytes2 body.length ++ [address, kind, tag] ++ body
  0x5A#8 :: inner ++ bytes2 (crc16 inner).toNat

/-- What received bytes hold. -/
inductive FrameRead where
  | none                                                    -- no complete frame
  | overLength                                              -- the length field is above 1024
  | frame (good : Bool) (address kind tag : Byte) (body : List Byte)
  deriving DecidableEq, Repr

/-- R173, R183: bytes before the start mark are discarded; the length field gives the end; the check is compared. -/
def readFrame (bs : List Byte) : FrameRead :=
  match bs.dropWhile (· != 0x5A#8) with
  | _ :: l1 :: l0 :: rest =>
    if nat2 l1 l0 > Config.maxBody then .overLength
    else
      match rest with
      | address :: kind :: tag :: more =>
        let n := nat2 l1 l0
        if more.length < n + 2 then .none
        else
          let body := more.take n
          let good := (more.drop n).take 2 == bytes2 (crc16 ([l1, l0, address, kind, tag] ++ body)).toNat
          .frame good address kind tag body
      | _ => .none
  | _ => .none

/-! ## Items (R176) -/

/-- R176: the bytes of one item, by its type. Numbers that R176 gives no type are sent as `small` (DESIGN CHOICE, unsafe: log entry 44); the
bits of a set above its members are 0 (DESIGN CHOICE, unsafe: log entry 43). -/
def Item.bytes : Item → List Byte
  | .time t => bytes4 (t.getD 0xFFFFFFFF)
  | .half n => bytes2 (n.getD 0xFFFF)
  | .room r => bytes2 (r.emod 65536).toNat
  | .duration n => bytes2 n
  | .small n => [byte (n.getD 0xFF)]
  | .coverage n => bytes2 (n.getD Config.noneCoverage)
  | .code n => [byte (n.getD Config.noneCode)]
  | .yesNo b => [byte (match b with | some true => 1 | some false => 0 | none => Config.noneYesNo)]
  | .flags bits => [byte (bitSet bits)]
  | .count n => [byte n]
  | .cycles c => [byte (match c with | some (.times n) => n | some .continuous => Config.continuousCode | none => 0xFF)]

def bodyBytes (b : Body) : List Byte := b.flatMap Item.bytes

/-- R175. -/
def Reason.code : Reason → Nat
  | .unknownKind => 0x01 | .format => 0x02 | .range => 0x03 | .undefined => 0x04 | .mode => 0x05 | .state => 0x06
  | .busy => 0x07 | .full => 0x08 | .duplicate => 0x09 | .tooLate => 0x0A | .noRoom => 0x0B | .boxFull => 0x0C
  | .shelfFull => 0x0D | .order => 0x0E | .storing => 0x0F

/-- R183. -/
def ReportKind.code : ReportKind → Nat
  | .callRaised => 0x90 | .callDone => 0x91 | .callTrimmed => 0x92 | .listFull => 0x93 | .slotFlag => 0x94
  | .shortage => 0x95 | .seqBreak => 0x96 | .window => 0x98 | .load => 0x99 | .couple => 0xA0 | .depart => 0xA1
  | .stop => 0xA2 | .drop => 0xA3 | .runEnd => 0xA4 | .charge => 0xA5 | .zone => 0xA8 | .link => 0xAC | .hot => 0xAD
  | .note => 0xAE | .storeDone => 0xB0 | .restart => 0xB1

/-- R183: the request kinds. -/
def requestKinds : List Byte :=
  [0x01#8, 0x02#8, 0x03#8, 0x04#8, 0x05#8, 0x08#8, 0x09#8, 0x0A#8, 0x0B#8, 0x10#8, 0x11#8, 0x12#8, 0x13#8, 0x14#8, 0x18#8, 0x19#8,
   0x1A#8, 0x1B#8, 0x1C#8, 0x1D#8, 0x20#8, 0x21#8, 0x22#8, 0x23#8, 0x24#8, 0x25#8, 0x26#8, 0x27#8, 0x28#8, 0x29#8, 0x2A#8, 0x2B#8,
   0x30#8, 0x31#8, 0x32#8, 0x38#8, 0x39#8, 0x3A#8, 0x3B#8, 0x3C#8]

/-- R162: the kind of a poll and of a reply on a field link (R183). -/
def pollKind : Link → Byte
  | .train => 0xC0#8
  | .rack => 0xC8#8

def replyKind : Link → Byte
  | .train => 0xC1#8
  | .rack => 0xC9#8

/-- R175: ACCEPT carries the request's kind and the body; REFUSE the request's kind and the reason code. -/
def Reply.frame (r : Reply) : List Byte :=
  match r.answer with
  | .accept b => frameBytes 0 0x80#8 r.tag (r.kind :: bodyBytes b)
  | .refuse x => frameBytes 0 0x81#8 r.tag [r.kind, byte x.code]

/-- R177: a report frame: address 00h, tag 0, a flags byte (bit 0 the gap flag), the plant time, the items. Bits 1 to 7 of the flags byte
are 0 (DESIGN CHOICE, unsafe: log entry 43). -/
def Report.frame (gap : Bool) (r : Report) : List Byte :=
  frameBytes 0 (byte r.kind.code) 0 (byte (if gap then 1 else 0) :: bytes4 r.time ++ bodyBytes r.items)

/-- The bytes of a telegram the part sends (R183). -/
def Telegram.bytes : Telegram → List Byte
  | .reply r => r.frame
  | .report gap r => r.frame gap
  | .poll link address body => frameBytes (byte address) (pollKind link) 0 body

end Sys2Proof.Machine
end

