-- ==== Sys2Proof/Decode.lean ====
section
/-! DEFINITION. From words and telegrams to commands. spec/opcode_table.json gives no row any bits, so no word of bits spells a
command; a request taken from the request queue does, by its kind (R183) and body. The bodies' items stand in the order of the
rule that lists them, each in the form R176 gives its type (DEDUCED, unsafe: log entry 6). -/

namespace Sys2Proof

/-- The command that a word spells by the table's bits: none, since no row of the table has bits. -/
def decodeTableWord (_nbits _w : Nat) : Option Instr := none

namespace Machine

/-! ## Request bodies -/

def readNothing : List Byte → Operand Unit
  | [] => .ok ()
  | _ => .malformed

def readOne : List Byte → Operand Nat
  | [a] => .ok a.toNat
  | _ => .malformed

def readTwo : List Byte → Operand Nat
  | [a, b] => .ok (nat2 a b)
  | _ => .malformed

def readFour : List Byte → Operand Nat
  | [a, b, c, d] => .ok (nat4 a b c d)
  | _ => .malformed

/-- R9, R182: an optional byte. -/
def readOptional : List Byte → Operand (Option Nat)
  | [] => .ok none
  | [a] => .ok (some a.toNat)
  | _ => .malformed

/-- R14. -/
def readLineSet : List Byte → Operand LineSetArgs
  | [s, t1, t0] => .ok ⟨s.toNat, nat2 t1 t0⟩
  | _ => .malformed

/-- R5: builds of five bytes, none left over. -/
def readBuilds : List Byte → Option (List Build)
  | [] => some []
  | a :: b :: c :: d :: m :: rest => (readBuilds rest).map (⟨nat4 a b c d, m.toNat⟩ :: ·)
  | _ => none

/-- R5: the list of builds, its entry count first. -/
def readAnnounce : List Byte → Operand (List Build)
  | n :: rest =>
    match readBuilds rest with
    | some bs => if bs.length = n.toNat then .ok bs else .malformed
    | none => .malformed
  | [] => .malformed

/-- Pairs of single bytes, none left over. -/
def readPairs : List Byte → Option (List (Nat × Nat))
  | [] => some []
  | a :: b :: rest => (readPairs rest).map ((a.toNat, b.toNat) :: ·)
  | _ => none

/-- R22, defined = yes: what follows the defined value. -/
def readSlotFields (slot : Nat) : List Byte → Operand SlotDefArgs
  | kind :: k1 :: k0 :: station :: loop :: stop :: rack :: channel :: q1 :: q0 :: p :: size :: k :: low :: safety :: u16 :: n :: rest =>
    match readPairs rest with
    | some us =>
      if us.length = n.toNat then
        .ok ⟨slot, kind.toNat, nat2 k1 k0, station.toNat, loop.toNat, stop.toNat, optByte rack, channel.toNat, nat2 q1 q0, p.toNat,
          size.toNat, k.toNat, low.toNat, safety.toNat, u16.toNat, us⟩
      else .malformed
    | none => .malformed
  | _ => .malformed

/-- R22: SLOT-DEF. -/
def readSlotDef (tag : Byte) : List Byte → Instr
  | [s1, s0, 0x00#8] => .slotUndefine tag (.ok (nat2 s1 s0))
  | s1 :: s0 :: 0x01#8 :: rest => .slotDef tag (readSlotFields (nat2 s1 s0) rest)
  | _ => .slotDef tag .malformed

/-- R25. -/
def readSlotStateArgs : List Byte → Operand SlotStateArgs
  | [s1, s0, v] => .ok ⟨nat2 s1 s0, v.toNat⟩
  | _ => .malformed

/-- R35. -/
def readSlotCount : List Byte → Operand SlotCountArgs
  | [s1, s0, v1, v0] => .ok ⟨nat2 s1 s0, nat2 v1 v0⟩
  | _ => .malformed

/-- R70. -/
def readExpedite : List Byte → Operand ExpediteArgs
  | [s1, s0, n] => .ok ⟨nat2 s1 s0, n.toNat⟩
  | _ => .malformed

/-- R81. -/
def readMask : List Byte → Operand MaskArgs
  | [e, s, p, c] => .ok ⟨e.toNat, s.toNat, p.toNat, c.toNat⟩
  | _ => .malformed

/-- R85, R183: the first byte tells the forms apart. -/
def readCallQuery (tag : Byte) : List Byte → Instr
  | 0x00#8 :: rest => .callQueryCall tag (readTwo rest)
  | 0x01#8 :: rest => .callQuerySlot tag (readTwo rest)
  | _ => .callQueryCall tag .malformed

/-- R89: n gate lists of 0 to 4 zone ids, none left over. -/
def readGates : Nat → List Byte → Option (List (List Nat))
  | 0, [] => some []
  | 0, _ => none
  | _ + 1, [] => none
  | n + 1, c :: rest =>
    if c.toNat ≤ 4 && decide (c.toNat ≤ rest.length) then
      (readGates n (rest.drop c.toNat)).map ((rest.take c.toNat).map (·.toNat) :: ·)
    else none

/-- R89, defined = yes: what follows the defined value. -/
def readLoopFields (loop : Nat) : List Byte → Operand LoopDefArgs
  | n :: wagons :: w1 :: w0 :: p1 :: p0 :: r1 :: r0 :: l1 :: l0 :: source :: dispatch :: ret :: rest =>
    match readGates (n.toNat + 1) rest with
    | some gs =>
      .ok ⟨loop, n.toNat, wagons.toNat, nat2 w1 w0, nat2 p1 p0, nat2 r1 r0, nat2 l1 l0, source.toNat, dispatch.toNat, ret.toNat, gs⟩
    | none => .malformed
  | _ => .malformed

/-- R89: LOOP-DEF. -/
def readLoopDef (tag : Byte) : List Byte → Instr
  | [l, 0x00#8] => .loopUndefine tag (.ok l.toNat)
  | l :: 0x01#8 :: rest => .loopDef tag (readLoopFields l.toNat rest)
  | _ => .loopDef tag .malformed

/-- R93: a count of 1 to 15, or the byte of CONTINUOUS (log entry 4); any other byte is a count out of range. -/
def readCount (b : Byte) : CycleCount :=
  if 1 ≤ b.toNat ∧ b.toNat ≤ 15 then .times b.toNat
  else if b.toNat = Config.continuousCode then .continuous
  else .times b.toNat

def readCycle : List Byte → Operand CycleArgs
  | [l, c] => .ok ⟨l.toNat, readCount c⟩
  | _ => .malformed

/-- R113: the five settings. -/
def readFleet : List Byte → Operand Fleet
  | [c, s, e, g1, g0, l1, l0] => .ok ⟨c.toNat, s.toNat, e.toNat, nat2 g1 g0, nat2 l1 l0⟩
  | _ => .malformed

/-- R112, R113, R183: the train form after 00h, the fleet form after 01h. -/
def readTrainDef (tag : Byte) : List Byte → Instr
  | [0x00#8, t, 0x00#8] => .trainDef tag (.ok ⟨t.toNat, none⟩)
  | [0x00#8, t, 0x01#8, l] => .trainDef tag (.ok ⟨t.toNat, some (optByte l)⟩)
  | 0x01#8 :: rest => .fleetSettings tag (readFleet rest)
  | _ => .trainDef tag .malformed

/-- R115. -/
def readAssign : List Byte → Operand AssignArgs
  | [t, l] => .ok ⟨t.toNat, optByte l⟩
  | _ => .malformed

/-- R133: off 0, on 1. -/
def readService (tag : Byte) : List Byte → Instr
  | [t, v] =>
    if v = 0x00#8 then .serviceOff tag (.ok t.toNat)
    else if v = 0x01#8 then .serviceOn tag (.ok t.toNat)
    else .serviceOff tag .outOfRange
  | _ => .serviceOff tag .malformed

/-- R154. -/
def readHotcall : List Byte → Operand HotArgs
  | [t, s1, s0, n] => .ok ⟨t.toNat, nat2 s1 s0, n.toNat⟩
  | _ => .malformed

/-- R141. -/
def readLimits : List Byte → Operand ZoneLimitsArgs
  | [g1, g0, l1, l0] => .ok ⟨nat2 g1 g0, nat2 l1 l0⟩
  | _ => .malformed

/-- R140, R141, R183: the zone form after 00h, the limits form after 01h. -/
def readZoneDef (tag : Byte) : List Byte → Instr
  | [0x00#8, z, 0x00#8] => .zoneDef tag (.ok ⟨z.toNat, none⟩)
  | [0x00#8, z, 0x01#8, c, n, w1, w0] => .zoneDef tag (.ok ⟨z.toNat, some ⟨c.toNat, n.toNat, nat2 w1 w0⟩⟩)
  | 0x01#8 :: rest => .zoneLimits tag (readLimits rest)
  | _ => .zoneDef tag .malformed

/-- R149. -/
def readZoneClear : List Byte → Operand ZoneClearArgs
  | [z, t] => .ok ⟨z.toNat, t.toNat⟩
  | _ => .malformed

/-- R163. -/
def readLinkSet : List Byte → Operand LinkSetArgs
  | [t1, t0, r1, r0] => .ok ⟨nat2 t1 t0, nat2 r1 r0⟩
  | _ => .malformed

/-- R181: FULL 0, SHIFT 1. -/
def readRestart (tag : Byte) : List Byte → Instr
  | [k] =>
    if k = 0x00#8 then .restartFull tag (.ok ())
    else if k = 0x01#8 then .restartShift tag (.ok ())
    else .restartFull tag .outOfRange
  | _ => .restartFull tag .malformed

/-! ## Requests -/

/-- R174, R183: the command that a request taken from the queue is, by its kind. -/
def requestCommand (r : Request) : Instr :=
  match r.kind with
  | 0x01#8 => .lineSet r.tag (readLineSet r.body)
  | 0x02#8 => .lineMode r.tag (readOne r.body)
  | 0x03#8 => .announce r.tag (readAnnounce r.body)
  | 0x04#8 => .withdraw r.tag (readFour r.body)
  | 0x05#8 => .advance r.tag (readOptional r.body)
  | 0x08#8 => readSlotDef r.tag r.body
  | 0x09#8 => .slotState r.tag (readSlotStateArgs r.body)
  | 0x0A#8 => .slotCount r.tag (readSlotCount r.body)
  | 0x0B#8 => .slotQuery r.tag (readTwo r.body)
  | 0x10#8 => .expedite r.tag (readExpedite r.body)
  | 0x11#8 => .cancel r.tag (readTwo r.body)
  | 0x12#8 => .classMask r.tag (readMask r.body)
  | 0x13#8 => .seqFlush r.tag (readTwo r.body)
  | 0x14#8 => readCallQuery r.tag r.body
  | 0x18#8 => readLoopDef r.tag r.body
  | 0x19#8 => .cycle r.tag (readCycle r.body)
  | 0x1A#8 => .cycleStop r.tag (readOne r.body)
  | 0x1B#8 => .windowOpen r.tag (readOne r.body)
  | 0x1C#8 => .windowClose r.tag (readOne r.body)
  | 0x1D#8 => .loopQuery r.tag (readOne r.body)
  | 0x20#8 => readTrainDef r.tag r.body
  | 0x21#8 => .trainAssign r.tag (readAssign r.body)
  | 0x22#8 => .release r.tag (readOne r.body)
  | 0x23#8 => .cut r.tag (readOne r.body)
  | 0x24#8 => .retRun r.tag (readOne r.body)
  | 0x25#8 => .abandon r.tag (readOne r.body)
  | 0x26#8 => .charge r.tag (readOne r.body)
  | 0x27#8 => readService r.tag r.body
  | 0x28#8 => .dismiss r.tag (readOne r.body)
  | 0x29#8 => .hotcall r.tag (readHotcall r.body)
  | 0x2A#8 => .noteRead r.tag (readOne r.body)
  | 0x2B#8 => .trainQuery r.tag (readOne r.body)
  | 0x30#8 => readZoneDef r.tag r.body
  | 0x31#8 => .zoneClear r.tag (readZoneClear r.body)
  | 0x32#8 => .zoneQuery r.tag (readOne r.body)
  | 0x38#8 => .store r.tag (readNothing r.body)
  | 0x39#8 => readRestart r.tag r.body
  | 0x3A#8 => .causeRead r.tag (readOptional r.body)
  | 0x3B#8 => .status r.tag (readNothing r.body)
  | 0x3C#8 => .linkSet r.tag (readLinkSet r.body)
  | k => .unknownKind r.tag k

end Machine

end Sys2Proof
end

