-- ==== Sys2Proof/Machine/Operands.lean ====
section
/-! DEFINITION. How a request is checked and answered (0.6.6, R174, R175), and the codes of the spec's value lists (R176). -/

namespace Sys2Proof.Machine

/-- A refusal table: the reason of the first condition that fails. -/
def firstFail : List (Bool × Reason) → Option Reason
  | [] => none
  | (ok, r) :: rest => if ok then firstFail rest else some r

/-- Whether lo ≤ n ≤ hi. -/
def within (lo hi n : Nat) : Bool := decide (lo ≤ n) && decide (n ≤ hi)

/-- R174, R175: a request of the given kind and tag taken in hand: refused with one reason and no effect, or taken,
with its effect and the acceptance body; then it leaves the request queue. -/
def serve {α : Type} (kind tag : Byte) (o : Operand α) (check : State → α → Option Reason)
    (act : State → α → State × Body) (s : State) : State :=
  match o with
  | .malformed => (s.reply kind tag (.refuse .format)).leaveQueue kind tag
  | .outOfRange => (s.reply kind tag (.refuse .range)).leaveQueue kind tag
  | .ok a =>
    match check s a with
    | some r => (s.reply kind tag (.refuse r)).leaveQueue kind tag
    | none => ((act s a).1.reply kind tag (.accept (act s a).2)).leaveQueue kind tag

/-! ## Value lists, counted from 0 in the order of the owning rule (R176) -/

def LineMode.code : LineMode → Nat | .run => 0 | .pause => 1 | .closed => 2
def SlotKind.code : SlotKind → Nat | .bulk => 0 | .seq => 1
def SlotState.code : SlotState → Nat | .active => 0 | .suspended => 1
def Cause.code : Cause → Nat
  | .consumption => 0 | .drop => 1 | .hot => 2 | .pull => 3 | .tally => 4 | .coverage => 5 | .calls => 6 | .definition => 7
  | .seqPull => 8
def CallClass.code : CallClass → Nat | .expedite => 0 | .seq => 1 | .pull => 2 | .cover => 3
def CallState.code : CallState → Nat | .opn => 0 | .planned => 1 | .loaded => 2 | .void => 3
def DropStatus.code : DropStatus → Nat | .pending => 0 | .go => 1 | .hold => 2 | .dropped => 3 | .carried => 4 | .void => 5
def Source.code : Source → Nat | .internal => 0 | .external => 1
def Dispatch.code : Dispatch → Nat | .auto => 0 | .held => 1
def Return.code : Return → Nat | .auto => 0 | .hold => 1
def WindowState.code : WindowState → Nat | .shut => 0 | .opn => 1 | .closeWait => 2
def LoadSlot.code : LoadSlot → Nat | .empty => 0 | .picking .. => 1 | .staged .. => 2
def TrainState.code : TrainState → Nat
  | .unplaced => 0 | .parked => 1 | .chargeWait => 2 | .charging => 3 | .coupling => 4 | .ready => 5 | .onRun => 6
  | .atStop => 7 | .holding => 8 | .returning => 9 | .outOfService => 10

/-- R153. -/
def HotPlace.code : HotPlace → Nat | .box => 0 | .shelf => 1

/-- R111: a location as its position in HOME, LEG, STOP, unknown and its number, none for HOME and unknown (DESIGN CHOICE, unsafe: log entry
7). -/
def Location.items : Location → Body
  | .home => [.code (some 0), .small none]
  | .leg k => [.code (some 1), .small (some k)]
  | .stop k => [.code (some 2), .small (some k)]
  | .unknown => [.code (some 3), .small none]

/-- R111: a place as its position in LEG, STOP and its number, or none (DESIGN CHOICE, unsafe: log entry 7). -/
def placeItems : Option Place → Body
  | some (.leg k) => [.code (some 0), .small (some k)]
  | some (.stop k) => [.code (some 1), .small (some k)]
  | none => [.code none, .small none]

/-- R20: the flag set in the order LOW, RISK, STARVED, OVERSUPPLIED. -/
def SlotFlags.item (f : SlotFlags) : Item := .flags [f.low, f.risk, f.starved, f.oversupplied]
/-- R81: the mask in class order. -/
def ClassMask.item (m : ClassMask) : Item := .flags [m.expedite, m.seq, m.pull, m.cover]
/-- R182: the restart cause set. -/
def Causes.item (c : Causes) : Item := .flags [c.power, c.full, c.shift, c.image]

def ClassMask.allows (m : ClassMask) : CallClass → Bool
  | .expedite => m.expedite
  | .seq => m.seq
  | .pull => m.pull
  | .cover => m.cover

/-- An item for a list: its entry count, then the items of each entry. -/
def listItems {α : Type} (l : List α) (f : α → Body) : Body := .count l.length :: l.flatMap f

end Sys2Proof.Machine
end

