-- ==== Sys2Proof/Machine/Calls.lean ====
section
/-! DEFINITION. The Call List: counts, raises, enlargements, removals and their reports (R61 to R67, R84). -/

namespace Sys2Proof.Machine

/-- R62: the containers of a slot's calls in one state: O for OPEN, S for PLANNED, I for LOADED. -/
def State.containersIn (s : State) (slot : Nat) (st : CallState) : Nat :=
  ((s.calls.filter fun e => e.2.slot == slot && e.2.state == st).map (·.2.containers)).sum

/-- R38: the occupied positions ceil(F/Q). -/
def Slot.occupied (sl : Slot) : Nat := ceilDiv sl.f sl.dfn.q

/-- R38: I + S + O of a slot. -/
def State.inCalls (s : State) (slot : Nat) : Nat :=
  s.containersIn slot .loaded + s.containersIn slot .planned + s.containersIn slot .opn

/-- R38: the room R of a slot; may be negative. -/
def State.room (s : State) (slot : Nat) (sl : Slot) : Int :=
  (sl.dfn.p : Int) - sl.occupied - s.inCalls slot - sl.h

/-- The room of a slot, 0 for an undefined one. -/
def State.roomOf (s : State) (id : Nat) : Int := match tget s.slots id with | some sl => s.room id sl | none => 0

/-- R65: the slot's OPEN call of a class, the first in order of assignment. -/
def State.openCall (s : State) (slot : Nat) (cls : CallClass) : Option (Nat × Call) :=
  s.calls.find? fun e => e.2.slot == slot && e.2.state == .opn && e.2.cls == cls

/-- R84: what every report of the Call List begins with. -/
def State.callHead (s : State) (id : Option Nat) (slot : Nat) (cls : CallClass) : Body :=
  [.half id, .half (some slot), .half (s.partKey slot), .code (some cls.code)]

/-- R84: the actions of CALL-RAISED. -/
inductive RaiseAction where
  | raised | enlarged | returned | merged
  deriving DecidableEq, Repr

def RaiseAction.code : RaiseAction → Nat | .raised => 0 | .enlarged => 1 | .returned => 2 | .merged => 3

/-- R60, R68: the figures a COVER call's report carries: those the slot record holds, which the recomputation that asked for a raise or
an enlargement has just written. For a return or a merge, which no recomputation asks for, R60 names none, and the record's figures at
the report stand in their place (DESIGN CHOICE, unsafe: log entry 30). -/
def State.coverFigures (s : State) (slot : Nat) (cls : CallClass) : Body :=
  match tget s.slots slot, cls with
  | some sl, .cover => [.coverage (some sl.cr), .coverage (some sl.cp), .coverage (some sl.trigger), .time (s.dueShown sl.due)]
  | _, _ => [.coverage none, .coverage none, .coverage none, .time none]

/-- R84: CALL-RAISED of the call as it stands, with the containers before. -/
def State.reportRaised (s : State) (act : RaiseAction) (id before : Nat) (merged : Option Nat) : State :=
  match tget s.calls id with
  | none => s
  | some c =>
    s.report .callRaised
      (s.callHead (some id) c.slot c.cls ++
        [.code (some act.code), .small (some before), .small (some c.containers), .half (some c.pieces), .coverage (some c.due),
         .code (some c.state.code), .yesNo (some c.returned), .time (c.set.map (·.1)), .time (c.set.map (·.2)),
         .yesNo (c.set.map fun _ => c.broken), .half merged] ++
        s.coverFigures c.slot c.cls)

/-- R84: the outcomes of CALL-DONE. -/
inductive CallOutcome where
  | delivered | cancelled | stripped
  deriving DecidableEq, Repr

def CallOutcome.code : CallOutcome → Nat | .delivered => 0 | .cancelled => 1 | .stripped => 2

/-- R64: a record leaves the list; the full-reported mark clears when the count falls below 512. -/
def State.removeCall (s : State) (id : Nat) : State :=
  let calls := tdel s.calls id
  { s with
    calls := calls
    fullReported := if calls.length < s.calls.length && calls.length < Config.maxCalls then false else s.fullReported }

/-- R84: CALL-DONE and the removal of the record. -/
def State.finishCall (s : State) (id : Nat) (out : CallOutcome) : State :=
  match tget s.calls id with
  | none => s
  | some c =>
    (s.removeCall id).report .callDone
      (s.callHead (some id) c.slot c.cls ++
        [.code (some out.code), .small (some c.dropped), .half c.load, .yesNo (some c.returned)])

/-- R64: a raise stopped by a full list: LIST-FULL once per filling. It concerns no call, so its call id is none, and
slot and class stand in the head and again as further items (DESIGN CHOICE, unsafe: log entry 38). -/
def State.listFull (s : State) (slot : Nat) (cls : CallClass) : State :=
  if s.fullReported then s
  else
    { (s.report .listFull
        (s.callHead none slot cls ++ [.code (some cls.code), .half (some slot), .half (some s.calls.length)])) with
      fullReported := true }

/-- R63, R64, R66: a raise. The new record, with its id, joins the end of the list and is reported; in a full list the
raise is stopped. The flag says whether a record was made. The sizing (R66) is the asking rule's. CALL-RAISED RAISED gives 0 as the
containers before (DESIGN CHOICE, unsafe: log entry 38). -/
def State.raiseCall (s : State) (slot : Nat) (cls : CallClass) (n pieces due : Nat) (set : Option (Nat × Nat)) :
    State × Option Nat :=
  if s.calls.length < Config.maxCalls then
    let id := freeId 65534 (tkeys s.calls) (s.calls.length + 1) s.nextCall
    let c : Call := ⟨slot, cls, n, pieces, set, false, s.plantTime, due, .opn, none, false, 0⟩
    let s1 := { s with calls := s.calls ++ [(id, c)], nextCall := stepId 65534 id }
    (s1.reportRaised .raised id 0 none, some id)
  else (s.listFull slot cls, none)

/-- R67: an enlargement of an OPEN call by n; its due coverage becomes the smaller of its own and the slot's Cr. -/
def State.enlargeCall (s : State) (id n : Nat) : State :=
  match tget s.calls id with
  | none => s
  | some c =>
    let cr := match tget s.slots c.slot with | some sl => sl.cr | none => c.due
    (s.modCall id fun c => { c with containers := c.containers + n, due := min c.due cr }).reportRaised
      .enlarged id c.containers none

/-- R66, R67: n containers of a class for a slot: the OPEN call of the class is enlarged, or a call is raised. The flag
says whether a call changed. -/
def State.askCall (s : State) (slot : Nat) (sl : Slot) (cls : CallClass) (n : Nat) : State × Bool :=
  match s.openCall slot cls with
  | some (id, _) => (s.enlargeCall id n, true)
  | none =>
    let r := s.raiseCall slot cls n sl.dfn.q sl.cr none
    (r.1, r.2.isSome)

end Sys2Proof.Machine
end

