-- ==== Sys2Proof/Machine/Flags.lean ====
section
/-! DEFINITION. The flags of a slot and their reports (R37, R43), and the rack indicator (R40). -/

namespace Sys2Proof.Machine

/-- R43: SLOT-FLAG for slot `id`: the flag that changed (its place in R20's list LOW, RISK, STARVED, OVERSUPPLIED) and its
new value, or none for SEQ_PULL, then all four flags, F and the cause. -/
def State.reportFlag (s : State) (id : Nat) (flag : Option (Nat × Bool)) (cause : Cause) : State :=
  match tget s.slots id with
  | none => s
  | some sl =>
    s.report .slotFlag
      [.half (some id), .half (some sl.dfn.partKey), .code (flag.map (·.1)), .yesNo (flag.map (·.2)), sl.flags.item,
       .half (some sl.f), .code (some cause.code)]

/-- One SLOT-FLAG report where a flag changed. -/
def State.reportChange (s : State) (id flag : Nat) (old new : Bool) (cause : Cause) : State :=
  if old = new then s else s.reportFlag id (some (flag, new)) cause

/-- R43: the changes one event made to a slot's flags, in the order STARVED, OVERSUPPLIED, LOW, RISK. STARVED and
OVERSUPPLIED carry the event's cause, LOW and RISK the cause of the recomputation (R55). -/
def State.reportFlags (s : State) (id : Nat) (ev rc : Cause) (old : SlotFlags) : State :=
  match tget s.slots id with
  | none => s
  | some sl =>
    let n := sl.flags
    (((s.reportChange id 2 old.starved n.starved ev).reportChange id 3 old.oversupplied n.oversupplied ev).reportChange
      id 0 old.low n.low rc).reportChange id 1 old.risk n.risk rc

/-- R37: OVERSUPPLIED clears once R is 0 or more. -/
def State.judgeOver (s : State) (id : Nat) : State :=
  match tget s.slots id with
  | none => s
  | some sl =>
    if sl.flags.oversupplied && decide (0 ≤ s.room id sl) then s.modSlot id fun x => { x with flags := { x.flags with oversupplied := false } }
    else s

/-- R40: the aspect of a slot's lamp: 0 DARK, 1 EMPTY, 2 LOW, 3 OK. -/
def Slot.aspect (sl : Slot) : Nat :=
  if sl.dfn.state = .suspended then 0 else if sl.f = 0 then 1 else if sl.flags.low then 2 else 3

/-- R40: INBOUND is lit while I > 0 and the aspect is not DARK. -/
def State.inbound (s : State) (id : Nat) (sl : Slot) : Bool :=
  decide (0 < s.containersIn id .loaded) && sl.aspect != 0

end Sys2Proof.Machine
end

