-- ==== Sys2Proof/Machine/Slots.lean ====
section
/-! DEFINITION. The Slot Table and the Coverage Unit: usage, the pitch walk, recomputation and its chain, and the events
that change a slot (R20 to R42, R46 to R60, R69, R72, R73). -/

namespace Sys2Proof.Machine

/-! ## Usage and future pitches -/

/-- R21: the quantity a build of a model uses. -/
def SlotDefn.use (d : SlotDefn) (model : Nat) : Nat :=
  match tget d.usage model, d.kind with
  | some q, .bulk => q
  | some q, .seq => if 1 ≤ q then 1 else 0
  | none, _ => 0

/-- R21: what a pitch uses; an empty pitch uses 0. -/
def SlotDefn.usePitch (d : SlotDefn) : Option Build → Nat
  | none => 0
  | some b => d.use b.model

/-- R13: the future pitches at a station: positions s−1 down to 0, then the Announced Queue; none at S or above. -/
def State.futurePitches (s : State) (station : Nat) : List (Option Build) :=
  if station < s.stations then (s.lineArray.take station).reverse ++ s.announced.map some else []

/-! ## The pitch walk -/

/-- R48: the walk over the usages with x pieces: the pitches served, and the pieces left when every pitch was served. -/
def walk : List Nat → Nat → Nat × Option Nat
  | [], x => (0, some x)
  | u :: us, x =>
    if u ≤ x then
      let r := walk us (x - u)
      (r.1 + 1, r.2)
    else (0, none)

/-- R48, R49: the coverage of x pieces, with the fallback on U16 and the saturation at 4095. -/
def coverage (u16 : Nat) (uses : List Nat) (x : Nat) : Nat :=
  match walk uses x with
  | (c, none) => min Config.maxCoverage c
  | (c, some left) =>
    if u16 = 0 then (if left = 0 then min Config.maxCoverage c else Config.maxCoverage)
    else min Config.maxCoverage (c + left * 16 / u16)

/-- R47: the lead of the slot's loop, 0 s when the loop is not defined. -/
def State.lead (s : State) (d : SlotDefn) : Nat :=
  match tget s.loops d.loop with
  | some l => l.dfn.lead
  | none => 0

/-- R51: ceil(L × 10 / τ). -/
def State.leadPitches (s : State) (d : SlotDefn) : Nat := ceilDiv (s.lead d * 10) s.takt

/-- R50 to R54: a slot with the results of one recomputation written in. -/
def State.recomputed (s : State) (id : Nat) (sl : Slot) : Slot :=
  let uses := (s.futurePitches sl.dfn.station).map sl.dfn.usePitch
  let cr := coverage sl.dfn.u16 uses sl.f
  let cp := coverage sl.dfn.u16 uses (sl.f + sl.dfn.q * (s.inCalls id + sl.h))
  let lead := s.leadPitches sl.dfn
  { sl with
    cr := cr
    cp := cp
    trigger := lead + sl.dfn.safety
    due := min Config.maxDue (s.plantTime + cr * s.takt)
    flags := { sl.flags with
      low := decide (cr ≤ sl.dfn.lowMark)
      risk := decide (cr < lead) && (s.containersIn id .loaded + s.containersIn id .planned == 0) } }

/-- R46: steps 1 to 5 of R55 at one slot. -/
def State.writeCoverage (s : State) (id : Nat) : State := s.modSlot id (s.recomputed id)

/-! ## What follows a recomputation: COVER, owed pulls, the set check -/

/-- R56: the COVER condition. -/
def Slot.coverCondition (sl : Slot) : Bool :=
  sl.dfn.kind == .bulk && sl.dfn.state == .active && sl.counted && decide (sl.cp ≤ sl.trigger)

/-- R56: step 7: a COVER call of min(K, R), or the OPEN one grown to min(K, c + R). -/
def State.askCover (s : State) (id : Nat) : State × Bool :=
  match tget s.slots id with
  | none => (s, false)
  | some sl =>
    if sl.coverCondition then
      match s.openCall id .cover with
      | none =>
        let n := min sl.dfn.k (s.room id sl).toNat
        if 1 ≤ n then s.askCall id sl .cover n else (s, false)
      | some (_, c) =>
        let target := min (sl.dfn.k : Int) (c.containers + s.room id sl)
        if c.containers < target then s.askCall id sl .cover (target - c.containers).toNat else (s, false)
    else (s, false)

/-- R69: the retry of owed pulls. -/
def State.retryOwed (s : State) (id : Nat) : State × Bool :=
  match tget s.slots id with
  | none => (s, false)
  | some sl =>
    if sl.dfn.kind == .bulk && decide (0 < sl.owed) then
      if (s.openCall id .pull).isNone && decide (Config.maxCalls ≤ s.calls.length) then (s, false)
      else
        let n := min sl.owed (s.room id sl).toNat
        let s1 := s.modSlot id fun x => { x with owed := 0 }
        if sl.counted && decide (1 ≤ n) then s1.askCall id sl .pull n else (s1, false)
    else (s, false)

/-- R72: the pending builds of a SEQ slot. -/
def State.pendingBuilds (s : State) (sl : Slot) : List Build :=
  s.announced.filter fun b =>
    sl.dfn.use b.model == 1 && (match sl.setPointer with | none => true | some p => decide (p < b.serial))

/-- R73: the due coverage of the slot's SEQ call with the latest set in the list. -/
def State.latestSetDue (s : State) (id : Nat) : Option Nat :=
  ((s.calls.filter fun e => e.2.slot == id && e.2.cls == .seq).foldl
    (fun (best : Option (Nat × Nat)) e =>
      match e.2.set, best with
      | some (first, _), some (f, d) => if f < first then some (first, e.2.due) else some (f, d)
      | some (first, _), none => some (first, e.2.due)
      | none, b => b) none).map (·.2)

/-- R73, R74: a SEQ call for the builds given; the set pointer moves to the last of them where a record was made. -/
def State.raiseSet (s : State) (id : Nat) (sl : Slot) (builds : List Build) : State × Option Nat :=
  match builds.head?, builds.getLast? with
  | some b0, some b1 =>
    let due := max sl.cr ((s.latestSetDue id).getD sl.cr)
    match s.raiseCall id .seq 1 builds.length due (some (b0.serial, b1.serial)) with
    | (s1, some c) => (s1.modSlot id fun x => { x with setPointer := some b1.serial }, some c)
    | (s1, none) => (s1, none)
  | _, _ => (s, none)

/-- R73: one set check. -/
def State.checkSet (s : State) (id : Nat) : State × Bool :=
  match tget s.slots id with
  | none => (s, false)
  | some sl =>
    let builds := s.pendingBuilds sl
    if sl.dfn.kind == .seq && sl.counted && decide (sl.dfn.q ≤ builds.length) && decide (1 ≤ s.room id sl) then
      let r := s.raiseSet id sl (builds.take sl.dfn.q)
      (r.1, r.2.isSome)
    else (s, false)

/-- R55 step 7, R69, R73: what a finished recomputation asks for; the flag says whether the slot's calls changed. -/
def State.followUp (s : State) (id : Nat) : State × Bool :=
  let a := s.askCover id
  if a.2 then a
  else
    let b := a.1.retryOwed id
    if b.2 then b else b.1.checkSet id

/-- The flags of a slot as held. -/
def State.slotFlags (s : State) (id : Nat) : SlotFlags :=
  match tget s.slots id with
  | some sl => sl.flags
  | none => ⟨false, false, false, false⟩

/-- R55, R57: a recomputation at a slot whose flags were `old` before the event, and the recomputations that its own raises
start. Each of those lowers R by at least 1, so P + 2 rounds suffice. -/
def coverChain : Nat → Nat → Cause → Cause → SlotFlags → State → State
  | 0, _, _, _, _, s => s
  | n + 1, id, ev, rc, old, s =>
    let s1 := (s.writeCoverage id).reportFlags id ev rc old
    let r := s1.followUp id
    if r.2 then coverChain n id .calls .calls (r.1.slotFlags id) (r.1.judgeOver id) else r.1

/-- R46: a recomputation of one slot with the given cause; nothing for an undefined slot. -/
def State.recompute (s : State) (id : Nat) (cause : Cause) : State :=
  match tget s.slots id with
  | none => s
  | some sl => coverChain (sl.dfn.p + 2) id cause cause sl.flags s

/-- R58: every defined slot recomputed, in rising id order (DESIGN CHOICE, unsafe: log entry 9). -/
def State.recomputeAll (s : State) (cause : Cause) : State :=
  (tkeys s.slots).foldl (fun s id => s.recompute id cause) s

/-! ## Events at one slot -/

/-- R28, R37, R39: an event at a slot: its change of the record, whatever it did to the calls (already in `s`),
OVERSUPPLIED judged anew, and the recomputation. `old` holds the flags before the event. -/
def State.settleSlot (s : State) (id : Nat) (ev rc : Cause) (old : SlotFlags) : State :=
  match tget s.slots id with
  | none => s
  | some sl => coverChain (sl.dfn.p + 2) id ev rc old (s.judgeOver id)

/-- R39: a change of a slot's calls. -/
def State.callsChanged (s : State) (id : Nat) : State := s.settleSlot id .calls .calls (s.slotFlags id)

/-- R39 at several slots, each once. -/
def State.callsChangedAt (s : State) (ids : List Nat) : State := (dedup ids).foldl State.callsChanged s

/-- R28: an event that changes the record of one slot by f. -/
def State.slotEvent (s : State) (id : Nat) (ev rc : Cause) (f : Slot → Slot) : State :=
  (s.modSlot id f).settleSlot id ev rc (s.slotFlags id)

/-- R30: STARVED after an event that leaves F: it clears above 0. -/
def Slot.fed (sl : Slot) (f : Nat) : Slot :=
  { sl with f := f, flags := { sl.flags with starved := sl.flags.starved && f == 0 } }

/-- R29, R30: a consumption event of a build at a slot. -/
def State.consume (s : State) (b : Build) (id : Nat) : State :=
  match tget s.slots id with
  | none => s
  | some sl =>
    let u := sl.dfn.use b.model
    if u = 0 then s
    else if u ≤ sl.f then s.slotEvent id .consumption .coverage fun x => { x with f := x.f - u }
    else
      ((s.report .shortage
        [.half (some id), .half (some sl.dfn.partKey), .small (some sl.dfn.station), .time (some b.serial), .small (some b.model),
         .half (some (u - sl.f))]).slotEvent id .consumption .coverage
        fun x => { x with f := 0, flags := { x.flags with starved := true } })

/-- R31: the pieces of a delivery that fit, and those cut at P×Q. -/
def Slot.cut (sl : Slot) (pieces : Nat) : Nat := sl.f + pieces - sl.dfn.p * sl.dfn.q

/-- R31, R32: F after a delivery of some pieces: min(P×Q, F + pieces), STARVED cleared above 0. -/
def Slot.deliver (sl : Slot) (pieces : Nat) : Slot := sl.fed (min (sl.dfn.p * sl.dfn.q) (sl.f + pieces))

/-- R33: F after a pull: the highest whole-container figure below it. -/
def Slot.snapped (sl : Slot) : Nat := min sl.f ((sl.occupied - 1) * sl.dfn.q)

/-- R34, R69: one more PULL container asked for after a snap; a raise stopped by a full list is owed. -/
def State.askPull (s : State) (id : Nat) : State :=
  match tget s.slots id with
  | none => s
  | some sl =>
    if sl.counted && decide (1 ≤ s.room id sl) then
      let r := s.askCall id sl .pull 1
      if r.2 then r.1 else r.1.modSlot id fun x => { x with owed := min x.dfn.p (x.owed + 1) }
    else s

/-- R33, R34: a pull event. -/
def State.pull (s : State) (id : Nat) : State :=
  match tget s.slots id with
  | none => s
  | some sl =>
    match sl.dfn.kind with
    | .seq => s.reportFlag id none .seqPull
    | .bulk =>
      (((s.modSlot id fun x => { x with f := x.snapped }).askPull id).settleSlot id .pull .pull sl.flags)

/-- R36: one OPEN call trimmed by min(its containers, −R), with the containers taken. -/
def State.trimCall (s : State) (id : Nat) (cls : CallClass) : State × Nat :=
  match tget s.slots id, s.openCall id cls with
  | some sl, some (cid, c) =>
    let n := min c.containers (-(s.room id sl)).toNat
    if n = 0 then (s, 0)
    else
      let gone := n == c.containers
      let s1 := if gone then s.removeCall cid else s.modCall cid fun c => { c with containers := c.containers - n }
      (s1.report .callTrimmed
        (s.callHead (some cid) c.slot c.cls ++
          [.small (some c.containers), .small (some (c.containers - n)), .yesNo (some gone)]), n)
  | _, _ => (s, 0)

/-- R36: the OPEN COVER, PULL and EXPEDITE calls trimmed in that order, with the containers taken. -/
def State.trim (s : State) (id : Nat) : State × Nat :=
  let a := s.trimCall id .cover
  let b := a.1.trimCall id .pull
  let c := b.1.trimCall id .expedite
  (c.1, a.2 + b.2 + c.2)

/-- R35: steps 1 to 4 of a tally: F set, counted, STARVED and owed pulls cleared, calls trimmed; with the containers trimmed. -/
def State.tallyTrim (s : State) (id value : Nat) : State × Nat :=
  (s.modSlot id fun x =>
    { x.fed (min (x.dfn.p * x.dfn.q) value) with
      counted := true
      owed := 0 }).trim id

/-- R35, R37: a tally, and the containers trimmed. OVERSUPPLIED is set where R stays below 0. -/
def State.tally (s : State) (id value : Nat) : State × Nat :=
  let r := s.tallyTrim id value
  match tget r.1.slots id with
  | none => r
  | some sl =>
    let negative := decide (r.1.room id sl < 0)
    ((r.1.modSlot id fun x => { x with flags := { x.flags with oversupplied := negative } }).settleSlot id .tally .tally (s.slotFlags id), r.2)

/-- R32: the three hot events at a slot. -/
def State.hotAccepted (s : State) (id c : Nat) : State := s.slotEvent id .hot .hot fun x => { x with h := x.h + c }
def State.hotDelivered (s : State) (id c : Nat) : State :=
  s.slotEvent id .hot .hot fun x => { x.deliver (c * x.dfn.q) with h := x.h - c }
def State.hotAbandoned (s : State) (id c : Nat) : State := s.slotEvent id .hot .hot fun x => { x with h := x.h - c }

end Sys2Proof.Machine
end

