-- ==== Sys2Proof/Machine/Loops.lean ====
section
/-! DEFINITION. The Loop Controller and the Load Planner: windows, cycle requests, packing, the load slot, and the beginning of a
coupling, with the chain of openings, closes and couplings that one event can set off (R88, R92 to R107, R117). -/

namespace Sys2Proof.Machine

/-! ## Reports (R108) -/

inductive WindowEvent where
  | opened | deferred | closed | shut
  deriving DecidableEq, Repr

def WindowEvent.code : WindowEvent → Nat | .opened => 0 | .deferred => 1 | .closed => 2 | .shut => 3

inductive WindowCause where
  | expiry | windowClose | coupling | dissolved | mode | request
  deriving DecidableEq, Repr

def WindowCause.code : WindowCause → Nat
  | .expiry => 0 | .windowClose => 1 | .coupling => 2 | .dissolved => 3 | .mode => 4 | .request => 5

def State.reportWindow (s : State) (l : Nat) (ev : WindowEvent) (cause : WindowCause) : State :=
  match tget s.loops l with
  | none => s
  | some r =>
    s.report .window
      [.small (some l), .code (some ev.code), .code (some cause.code), .cycles r.active, .small (some r.waiting.length),
       .time (match ev with | .opened => r.expiry | _ => none)]

inductive LoadOutcome where
  | planned | empty | staged | dissolved | returned
  deriving DecidableEq, Repr

def LoadOutcome.code : LoadOutcome → Nat | .planned => 0 | .empty => 1 | .staged => 2 | .dissolved => 3 | .returned => 4

/-- R108: LOAD of a load, with the figures of its close. The eligible calls can exceed 254 and take two bytes (DESIGN CHOICE, unsafe:
log entry 34). -/
def State.reportLoad (s : State) (l : Nat) (out : LoadOutcome) (ld : Load) (expiry : Option Nat) : State :=
  match tget s.loops l with
  | none => s
  | some r =>
    s.report .load
      [.small (some l), .code (some out.code), .half (match out with | .empty => none | _ => some ld.id), .half (some ld.eligible),
       .small (some ld.placed), .small (some ld.containers), .small (some ld.units), .small (some (r.dfn.wagons * 8)), .time expiry]

/-! ## Opening (R96) -/

/-- R96: the earliest opening time of an INTERNAL loop: the later of the last opening plus the period and plus 1 s. With no opening
since restart the loop may open at any time, and the figure is plant time 0 (DESIGN CHOICE, unsafe: log entry 33). -/
def LoopRec.earliest (r : LoopRec) : Nat :=
  match r.lastOpen with
  | none => 0
  | some t => t + max (r.dfn.period * 10) 10

/-- R96: an OPEN EXPEDITE call, enabled in the mask, for a defined slot naming the loop. -/
def State.expediteWaits (s : State) (l : Nat) : Bool :=
  s.mask.expedite && s.calls.any fun e =>
    e.2.state == .opn && e.2.cls == .expedite && (match tget s.slots e.2.slot with | some sl => sl.dfn.loop == l | none => false)

/-- R96: the line mode allows an INTERNAL window of the loop to open. -/
def State.modeOpens (s : State) (l : Nat) : Bool :=
  match s.mode with
  | .run => true
  | .pause => s.expediteWaits l
  | .closed => false

/-- R96: the opening condition. -/
def State.canOpen (s : State) (l : Nat) (r : LoopRec) : Bool :=
  r.dfn.source == .internal && r.window == .shut && r.active.isSome && decide (r.earliest ≤ s.plantTime) && s.modeOpens l

/-! ## Planning (R76, R82, R83, R102 to R104) -/

/-- R82: eligible at a close of the loop, but for the set order of R76. -/
def State.eligible (s : State) (l : Nat) (c : Call) : Bool :=
  c.state == .opn && s.mask.allows c.cls && (s.mode == .run || (s.mode == .pause && c.cls == .expedite)) &&
    (match tget s.slots c.slot with | some sl => sl.dfn.loop == l && sl.dfn.state == .active | none => false)

/-- R83: level, due coverage, raised at; equal keys keep the order in which ids were assigned, which is the order of the list. -/
def arbBefore (a b : Nat × Call) : Bool :=
  if a.2.cls.code ≠ b.2.cls.code then decide (a.2.cls.code < b.2.cls.code)
  else if a.2.due ≠ b.2.due then decide (a.2.due < b.2.due)
  else decide (a.2.raisedAt < b.2.raisedAt)

/-- R83: the calls eligible at a close, in arbitration order. -/
def State.arbitration (s : State) (l : Nat) : List (Nat × Call) :=
  sortBy arbBefore (s.calls.filter fun e => s.eligible l e.2)

/-- R76: every earlier set of the slot is VOID or among the calls placed at this close. -/
def State.setsInOrder (s : State) (c : Call) (placed : List Nat) : Bool :=
  match c.cls, c.set with
  | .seq, some (first, _) =>
    s.calls.all fun e =>
      !(e.2.slot == c.slot && e.2.cls == .seq && (match e.2.set with | some (f, _) => decide (f < first) | none => false)) ||
        e.2.state == .void || placed.contains e.1
  | _, _ => true

/-- R103: the start units of a size, from lowest to highest, over all wagons; unit u of wagon w is numbered 8w + u. -/
def starts (size wagons : Nat) : List Nat :=
  (List.range (wagons * 8)).filter fun n => n % size == 0 && decide (n % 8 + size ≤ 8)

/-- R103: the units a container takes. -/
def unitsFrom (start size : Nat) : List Nat := (List.range size).map (start + ·)

/-- R103: first fit for one container against the units taken. -/
def fitOne (size wagons : Nat) (taken : List Nat) : Option Nat :=
  (starts size wagons).find? fun st => (unitsFrom st size).all fun u => !taken.contains u

/-- R103: n containers of a size, all or none: the starts found. -/
def fitCall (size wagons : Nat) : Nat → List Nat → Option (List Nat)
  | 0, _ => some []
  | n + 1, taken =>
    match fitOne size wagons taken with
    | none => none
    | some st => (fitCall size wagons n (taken ++ unitsFrom st size)).map (st :: ·)

/-- One call placed whole: its id, record, slot's stop index and size, and the starts of its containers. -/
structure Placed where
  id : Nat
  call : Call
  stop : Nat
  size : Nat
  at_ : List Nat
  deriving DecidableEq, Repr

/-- The planner's running result: calls placed, units taken, and calls passed over by R76 (not eligible after all:
DEDUCED, unsafe: log entry 27). -/
structure Packing where
  placed : List Placed
  taken : List Nat
  passed : Nat
  deriving DecidableEq, Repr

/-- R102: one call taken in arbitration order. -/
def State.packCall (s : State) (wagons : Nat) (k : Packing) (e : Nat × Call) : Packing :=
  if s.setsInOrder e.2 (k.placed.map (·.id)) then
    match tget s.slots e.2.slot with
    | none => k
    | some sl =>
      match fitCall sl.dfn.size wagons e.2.containers k.taken with
      | none => k
      | some at_ =>
        { k with
          placed := k.placed ++ [⟨e.1, e.2, sl.dfn.stop, sl.dfn.size, at_⟩]
          taken := k.taken ++ at_.flatMap fun st => unitsFrom st sl.dfn.size }
  else { k with passed := k.passed + 1 }

/-- R102: the whole close. -/
def State.pack (s : State) (l wagons : Nat) : Packing :=
  (s.arbitration l).foldl (s.packCall wagons) ⟨[], [], 0⟩

/-- R104: the drops of a placed call, indices not yet given. -/
def Placed.drops (p : Placed) : List Drop :=
  p.at_.map fun st => ⟨0, p.id, p.call.slot, p.stop, st / 8, st % 8, p.size, p.call.pieces, .pending, false, false⟩

/-- R104: drops in ascending stop order, within a stop in placement order, numbered from 0. -/
def listDrops (ps : List Placed) : List Drop :=
  (sortBy (fun a b : Drop => decide (a.stop < b.stop)) (ps.flatMap Placed.drops)).mapIdx fun i d => { d with index := i }

/-- The loads that hold a load id: those in load slots and those on trains. -/
def LoadSlot.load? : LoadSlot → Option Load
  | .empty => none
  | .picking l _ => some l
  | .staged l => some l

def State.allLoads (s : State) : List Load :=
  (s.loops.filterMap fun e => e.2.slot.load?) ++ s.trains.filterMap fun e => e.2.load

/-- R104: the load id a new load takes. -/
def State.newLoadId (s : State) : Nat :=
  let used := s.allLoads.map (·.id)
  freeId 65534 used (used.length + 1) s.nextLoad

/-- R104: the load a packing makes. -/
def State.makeLoad (s : State) (l : Nat) (k : Packing) (offered : Nat) : Load :=
  let drops := listDrops k.placed
  ⟨s.newLoadId, l, s.plantTime, drops, offered - k.passed, k.placed.length, drops.length, k.taken.length⟩

/-! ## Closing (R94, R99 to R101) -/

/-- R94: a close counted against the active request. -/
def LoopRec.countClose (r : LoopRec) : LoopRec :=
  match r.active with
  | some (.times n) =>
    if 1 < n then { r with active := some (.times (n - 1)) }
    else { r with active := r.waiting.head?, waiting := r.waiting.tail }
  | _ => r

/-- What still has to be done at a loop: the opening test, a close asked for, a close taken, the coupling test. -/
inductive LoopTask where
  | openTest
  | askClose (cause : WindowCause)
  | takeClose (cause : WindowCause)
  | couple
  deriving DecidableEq, Repr

/-- R97: the opening test. With a window of 0 s the close is asked for at once. -/
def State.openTest (s : State) (l : Nat) : State × List (Nat × LoopTask) :=
  match tget s.loops l with
  | none => (s, [])
  | some r =>
    if s.canOpen l r then
      ((s.modLoop l fun r =>
          { r with window := .opn, lastOpen := some s.plantTime, expiry := some (s.plantTime + r.dfn.window * 10) }).reportWindow
          l .opened .request,
        if r.dfn.window = 0 then [(l, .askClose .expiry)] else [])
    else (s, [])

/-- R99: a close asked for: taken with an EMPTY load slot, else deferred. -/
def State.askClose (s : State) (l : Nat) (cause : WindowCause) : State × List (Nat × LoopTask) :=
  match tget s.loops l with
  | none => (s, [])
  | some r =>
    match r.slot with
    | .empty => (s, [(l, .takeClose cause)])
    | _ => ((s.modLoop l fun r => { r with window := .closeWait, expiry := none }).reportWindow l .deferred cause, [])

/-- R99 steps 1 to 5, with R94, R102, R104, R105: the close. A load planned with a pick of 0 s is STAGED at once. The slots of
step 5 are recomputed in the order in which their first calls were placed (DESIGN CHOICE, unsafe: log entry 31). -/
def State.takeClose (s : State) (l : Nat) (cause : WindowCause) : State × List (Nat × LoopTask) :=
  match tget s.loops l with
  | none => (s, [])
  | some r =>
    let k := s.pack l r.dfn.wagons
    let offered := (s.arbitration l).length
    let ld := s.makeLoad l k offered
    let shut (slot : LoadSlot) (r : LoopRec) : LoopRec := { r.countClose with window := .shut, expiry := none, slot := slot }
    if k.placed.isEmpty then
      (((s.modLoop l (shut .empty)).reportWindow l .closed cause).reportLoad l .empty ld none, [(l, .openTest)])
    else
      let expiry := s.plantTime + r.dfn.pick * 10
      let s1 := k.placed.foldl (fun s p => s.modCall p.id fun c => { c with state := .planned, load := some ld.id }) s
      let s2 := { s1 with nextLoad := stepId 65534 ld.id }
      let s3 := ((s2.modLoop l (shut (.picking ld expiry))).reportWindow l .closed cause).reportLoad l .planned ld (some expiry)
      let s4 :=
        if r.dfn.pick = 0 then (s3.modLoop l fun r => { r with slot := .staged ld }).reportLoad l .staged ld none else s3
      (s4.callsChangedAt (k.placed.map (·.call.slot)),
        if r.dfn.pick = 0 then [(l, .openTest), (l, .couple)] else [(l, .openTest)])

/-! ## Coupling begins (R77, R107, R117) -/

/-- R117: the first train of the home queue whose loop is l. -/
def State.parkedFor (s : State) (l : Nat) : Option Nat :=
  s.homeQ.find? fun t => (match tget s.trains t with | some tr => tr.loop == some l | none => false)

/-- R135: the items every report of the Train Controller begins with: train id, state after the event, event. -/
def trainHead (t : Nat) (st : Option TrainState) (event : Nat) : Body :=
  [.small (some t), .code (st.map TrainState.code), .code (some event)]

/-- R135: COUPLE: 0 BEGUN, 1 CONFIRMED, 2 LATE, 3 ABANDONED; the outcome of ABANDONED is 0 RETURNED, 1 DISSOLVED. -/
def State.reportCouple (s : State) (t : Nat) (st : TrainState) (event : Nat) (ld : Load) (outcome : Option Nat) : State :=
  s.report .couple (trainHead t (some st) event ++ [.half (some ld.id), .small (some ld.loop), .code outcome])

/-- R77: a load as it leaves the slot: VOID drops stripped, every other PENDING, the marks of R124 clear. -/
def Load.coupled (ld : Load) : Load :=
  { ld with
    drops := (ld.drops.filter fun d => d.status != .void).map fun d =>
      { d with status := .pending, lateRep := false, orderRep := false } }

/-- R77, R107, R117: the coupling test of a loop, and the coupling. VOID calls are stripped and slots recomputed in drop order (DESIGN
CHOICE, unsafe: log entry 31), and the recomputations come before a deferred close (DESIGN CHOICE, unsafe: log entry 13). -/
def State.couple (s : State) (l : Nat) : State × List (Nat × LoopTask) :=
  match tget s.loops l, s.parkedFor l with
  | some r, some t =>
    match r.slot with
    | .staged ld =>
      if s.mode = .closed then (s, [])
      else
        let calls := dedup (ld.drops.map (·.call))
        let voids := calls.filter fun c => (match tget s.calls c with | some x => x.state == .void | none => false)
        let s1 := { s with homeQ := s.homeQ.filter (· != t) }
        let s2 := s1.modTrain t fun tr =>
          { tr with state := .coupling, load := some ld.coupled, coupledAt := some s.plantTime, lateRep := false, earlyRep := false }
        let s3 := (s2.modLoop l fun r => { r with slot := .empty }).reportCouple t .coupling 0 ld none
        let s4 := voids.foldl (fun s c => s.finishCall c .stripped) s3
        let s5 := calls.foldl
          (fun s c => s.modCall c fun x => if x.state = .planned then { x with state := .loaded } else x) s4
        (s5.callsChangedAt (ld.drops.map (·.slot)), if r.window = .closeWait then [(l, .takeClose .coupling)] else [])
    | _ => (s, [])
  | _, _ => (s, [])

/-! ## The chain -/

def State.runTask (s : State) (l : Nat) : LoopTask → State × List (Nat × LoopTask)
  | .openTest => s.openTest l
  | .askClose c => s.askClose l c
  | .takeClose c => s.takeClose l c
  | .couple => s.couple l

/-- The tasks worked off, what a task gives rise to before what was waiting (DESIGN CHOICE, unsafe: log entry 11). -/
def runTasks : Nat → List (Nat × LoopTask) → State → State
  | 0, _, s => s
  | _ + 1, [], s => s
  | n + 1, (l, t) :: rest, s =>
    let r := s.runTask l t
    runTasks n (r.2 ++ rest) r.1

/-- At one plant time a loop opens at most once (R96) and each coupling uses up a parked train, so a chain over 12 loops and
8 trains has fewer than 256 tasks. -/
def State.settleLoops (s : State) (ts : List (Nat × LoopTask)) : State := runTasks 256 ts s

/-! ## The load slot (R105, R106) -/

/-- R105: PICKING becomes STAGED. -/
def State.stage (s : State) (l : Nat) (ld : Load) : State :=
  ((s.modLoop l fun r => { r with slot := .staged ld }).reportLoad l .staged ld none).settleLoops [(l, .couple)]

def LoadSlot.mapLoad (f : Load → Load) : LoadSlot → LoadSlot
  | .empty => .empty
  | .picking l t => .picking (f l) t
  | .staged l => .staged (f l)

/-- R106: the drops of a call become VOID. -/
def Load.voidCall (ld : Load) (c : Nat) : Load :=
  { ld with drops := ld.drops.map fun d => if d.call = c then { d with status := .void } else d }

/-- R80, R106: a PLANNED call made VOID, with its drops, in whatever load slot holds them. -/
def State.voidCall (s : State) (c : Nat) : State :=
  let s1 := s.modCall c fun x => { x with state := .void }
  { s1 with loops := tmap (fun _ r => { r with slot := r.slot.mapLoad (·.voidCall c) }) s1.loops }

/-- R106: a load whose drops are all VOID is dissolved: its calls removed, the slot EMPTY, LOAD DISSOLVED; with the slots
concerned, in drop order (DESIGN CHOICE, unsafe: log entry 31), and the deferred close that follows. -/
def State.dissolveAt (s : State) (l : Nat) : State × List Nat × List (Nat × LoopTask) :=
  match tget s.loops l with
  | none => (s, [], [])
  | some r =>
    match r.slot.load? with
    | none => (s, [], [])
    | some ld =>
      if ld.drops.all fun d => d.status == .void then
        let s1 := (dedup (ld.drops.map (·.call))).foldl (fun s c => s.finishCall c .stripped) s
        ((s1.modLoop l fun r => { r with slot := .empty }).reportLoad l .dissolved ld none, ld.drops.map (·.slot),
          if r.window = .closeWait then [(l, .takeClose .dissolved)] else [])
      else (s, [], [])

/-- R101: a loop's window shut by the mode CLOSED. -/
def State.shutByMode (s : State) (l : Nat) : State :=
  match tget s.loops l with
  | none => s
  | some r =>
    match r.window with
    | .shut => s
    | _ => (s.modLoop l fun r => { r with window := .shut, expiry := none }).reportWindow l .shut .mode

/-- R97: the opening test of every INTERNAL loop, in rising id order (canOpen asks for INTERNAL). -/
def State.openTasks (s : State) : List (Nat × LoopTask) := (tkeys s.loops).map fun l => (l, .openTest)

/-- R117: the coupling test of every loop. -/
def State.coupleTasks (s : State) : List (Nat × LoopTask) := (tkeys s.loops).map fun l => (l, .couple)

end Sys2Proof.Machine
end

