-- ==== Sys2Proof/Machine/Zones.lean ====
section
/-! DEFINITION. The Zone Controller: evaluation and grants, gate wishes, confirmation, release, intrusion, lapse and stall
(R138 to R150). -/

namespace Sys2Proof.Machine

/-- The address of a train's terminal (R162). -/
def trainAddress (t : Nat) : Nat := 0x10 + t
/-- The address of a rack terminal (R162). -/
def rackAddress (a : Nat) : Nat := 0x40 + a

/-- Whether the link of a train's terminal is ALIVE. -/
def State.trainAlive (s : State) (t : Nat) : Bool :=
  match tget s.trainLink.terminals (trainAddress t) with
  | some x => x.alive
  | none => false

/-- R143: the grants of the history that lie within the last W seconds. -/
def Zone.recent (z : Zone) (now : Nat) : List Nat := z.history.filter fun g => decide (now < g + z.dfn.span * 10)

/-- R143: whether the head of the wait queue may be granted. -/
def Zone.mayGrant (z : Zone) (now : Nat) : Bool :=
  decide (z.occupants.length < z.dfn.capacity) && (z.dfn.count == 0 || decide ((z.recent now).length < z.dfn.count))

/-- R143: the history with one more grant, the oldest dropped at 9. -/
def pushHistory (h : List Nat) (now : Nat) : List Nat :=
  if 8 < (h ++ [now]).length then (h ++ [now]).tail else h ++ [now]

/-- R143: one grant to a train that has left the head of the queue. -/
def Zone.grant (z : Zone) (t now : Nat) : Zone :=
  { z with
    queue := z.queue.tail
    occupants := z.occupants ++ [⟨t, false, now, none⟩]
    history := pushHistory z.history now
    intruders := z.intruders.filter (· != t) }

/-- R143: an evaluation; each round grants the head or ends. -/
def Zone.evaluateN : Nat → Nat → Zone → Zone
  | 0, _, z => z
  | n + 1, now, z =>
    match z.queue with
    | [] => z
    | w :: _ => if z.mayGrant now then Zone.evaluateN n now (z.grant w.train now) else z

/-- R143. -/
def Zone.evaluate (z : Zone) (now : Nat) : Zone := Zone.evaluateN z.queue.length now z

/-- R143, R144: a zone evaluated. -/
def State.evaluate (s : State) (z : Nat) : State := s.modZone z fun x => x.evaluate s.plantTime

def Zone.waits (z : Zone) (t : Nat) : Bool := z.queue.any fun w => w.train == t
def Zone.holds (z : Zone) (t : Nat) : Bool := z.occupants.any fun o => o.train == t
def Zone.dropWaiter (z : Zone) (t : Nat) : Zone := { z with queue := z.queue.filter fun w => w.train != t }
def Zone.dropOccupant (z : Zone) (t : Nat) : Zone := { z with occupants := z.occupants.filter fun o => o.train != t }

/-- The current leg of a train. -/
def State.legOf (s : State) (t : Nat) : Option Nat := (tget s.trains t).bind (·.leg)

/-- R138: the occupants of a zone as a list of records. -/
def occupantItems (os : List Occupant) : Body :=
  listItems os fun o => [.small (some o.train), .code (some (if o.inside then 1 else 0)), .time (some o.grantedAt), .time o.confirmedAt]

/-- R151: ZONE: 0 STALL, 1 LAPSE, 2 INTRUSION, 3 WRONG_GATE, and all further items, none where the event has them not; the occupants,
a list, are then an empty one (log entry 7). Queue positions are counted from 0 (DESIGN CHOICE, unsafe: log entry 35), and that of an
INTRUSION stands where that of a STALL does (DESIGN CHOICE, unsafe: log entry 38). -/
def State.reportZone (s : State) (event zone t : Nat) (joinedAt position : Option Nat) (occupants : List Occupant)
    (recent grantedAt : Option Nat) (reason : Option Nat) (left : Option Bool) : State :=
  s.report .zone
    ([.code (some event), .small (some zone), .small (some t), .small (s.legOf t), .time joinedAt, .small position] ++
      occupantItems occupants ++ [.small recent, .time grantedAt, .code reason, .yesNo left])

/-- R142: a gate-wish record set. -/
def State.setWish (s : State) (t : Nat) (w : Wish) : State := s.modTrain t fun x => { x with wish := w }

/-- R147, R149: the record cleared where it names the zone. -/
def State.clearWishOf (s : State) (t zone : Nat) : State :=
  s.modTrain t fun x => if x.wish.zone = some zone then { x with wish := ⟨none, none⟩ } else x

/-- R142 step 1: the train leaves the queue of any zone other than the one wanted; that zone is evaluated. -/
def State.leaveOtherQueues (s : State) (t : Nat) (wanted : Option Nat) : State :=
  { s with zones := tmap (fun i z => if some i != wanted && z.waits t then (z.dropWaiter t).evaluate s.plantTime else z) s.zones }

/-- R142 step 1: whether there is such a queue. -/
def State.inOtherQueue (s : State) (t : Nat) (wanted : Option Nat) : Bool :=
  s.zones.any fun e => some e.1 != wanted && e.2.waits t

/-- R142 step 4: why a wish is not queued: 0 NO_LEG, 1 UNDEFINED, 2 NOT_ON_LEG. -/
def State.wrongGate (s : State) (tr : Train) (zone : Nat) : Option Nat :=
  match tr.leg with
  | none => some 0
  | some k =>
    if !tdefined s.zones zone then some 1
    else
      match tr.loop.bind (tget s.loops) with
      | none => some 2
      | some r =>
        match r.dfn.gates[k]? with
        | some g => if g.contains zone then none else some 2
        | none => some 2

/-- R142: the judgment of a wish. -/
def State.judgeWish (s : State) (t : Nat) (tr : Train) (wanted : Option Nat) : State :=
  let s1 := s.leaveOtherQueues t wanted
  match wanted with
  | none => s1
  | some zone =>
    match tget s1.zones zone with
    | some z =>
      if z.holds t then s1
      else
        match s.wrongGate tr zone with
        | some reason =>
          let s2 := s1.reportZone 3 zone t none none [] none none (some reason) (some (s.inOtherQueue t wanted || z.waits t))
          if z.waits t then (s2.modZone zone fun z => z.dropWaiter t).evaluate zone else s2
        | none =>
          if z.waits t then s1
          else (s1.modZone zone fun z => { z with queue := z.queue ++ [⟨t, s.plantTime, false⟩] }).evaluate zone
    | none =>
      s1.reportZone 3 zone t none none [] none none (s.wrongGate tr zone) (some (s.inOtherQueue t wanted))

/-- R142: the gate wanted of a reply; judged only where it or the current leg has changed. -/
def State.gateWanted (s : State) (t : Nat) (wanted : Option Nat) : State :=
  match tget s.trains t with
  | none => s
  | some tr => if tr.wish = ⟨wanted, tr.leg⟩ then s else (s.setWish t ⟨wanted, tr.leg⟩).judgeWish t tr wanted

/-- R145, R146: the zones held of a reply, at one zone. -/
def State.heldAt (s : State) (t zone : Nat) (listed : Bool) : State :=
  match tget s.zones zone with
  | none => s
  | some z =>
    match z.occupants.find? (fun o => o.train == t) with
    | some o =>
      if o.inside then
        if listed then s else (s.modZone zone fun z => z.dropOccupant t).evaluate zone
      else if listed then
        s.modZone zone fun z =>
          { z with occupants := z.occupants.map fun o =>
              if o.train = t then { o with inside := true, confirmedAt := some s.plantTime } else o }
      else s
    | none =>
      if z.intruders.contains t then
        if listed then s else s.modZone zone fun z => { z with intruders := z.intruders.filter (· != t) }
      else if listed then
        (s.modZone zone fun z => { z with intruders := insertBy (fun a b => decide (a < b)) t z.intruders }).reportZone
          2 zone t none (z.queue.findIdx? fun w => w.train == t) [] none none none none
      else s

/-- R145: every defined zone, in rising id order (DESIGN CHOICE, unsafe: log entry 9). -/
def State.zonesHeld (s : State) (t : Nat) (held : List Nat) : State :=
  (tkeys s.zones).foldl (fun s z => s.heldAt t z (held.contains z)) s

/-- R147: a GRANTED occupant at its limit. -/
def State.lapseDue (s : State) (zone t : Nat) : Option Occupant :=
  match tget s.zones zone with
  | none => none
  | some z => z.occupants.find? fun o => o.train == t && !o.inside && reached s.plantTime (o.grantedAt + s.grantLimit * 10)

/-- R147: a lapse. -/
def State.lapse (s : State) (zone t : Nat) (o : Occupant) : State :=
  (((s.modZone zone fun z => z.dropOccupant t).reportZone 1 zone t none none [] none (some o.grantedAt) none none).evaluate
    zone).clearWishOf t zone

/-- R147: the lapse of a train in a zone, where it is due. -/
def State.lapseIfDue (s : State) (zone t : Nat) : State :=
  match s.lapseDue zone t with
  | some o => s.lapse zone t o
  | none => s

/-- R148: a train in a wait queue at the gate wait limit, not yet reported. -/
def State.stallDue (s : State) (zone t : Nat) : Bool :=
  match tget s.zones zone with
  | none => false
  | some z => z.queue.any fun w => w.train == t && !w.stalled && reached s.plantTime (w.joinedAt + s.gateLimit * 10)

/-- R148: a stall reported, where it is due. -/
def State.stallIfDue (s : State) (zone t : Nat) : State :=
  match tget s.zones zone with
  | none => s
  | some z =>
    if s.stallDue zone t then
      (s.modZone zone fun z =>
          { z with queue := z.queue.map fun w => if w.train = t then { w with stalled := true } else w }).reportZone 0 zone t
        ((z.queue.find? fun w => w.train == t).map (·.joinedAt)) (z.queue.findIdx? fun w => w.train == t)
        z.occupants (some (z.recent s.plantTime).length) none none none
    else s

/-- R150: a train leaves every zone; each zone that lost an occupant or a queued train is evaluated. -/
def State.leaveZones (s : State) (t : Nat) : State :=
  let zones := tmap (fun _ z =>
    let z1 := { (z.dropWaiter t).dropOccupant t with intruders := z.intruders.filter (· != t) }
    if z.waits t || z.holds t then z1.evaluate s.plantTime else z1) s.zones
  { s with zones := zones }.setWish t ⟨none, none⟩

end Sys2Proof.Machine
end

