-- ==== Sys2Proof/Machine/Trains.lean ====
section
/-! DEFINITION. The Train Controller: queues, departures, the run, drops, returns of containers, arrival home, charging, and the
hot and note boxes (R79, R116 to R134, R153 to R160). -/

namespace Sys2Proof.Machine

/-! ## Reports (R135) -/

/-- DEPART: 0 QUEUED, 1 GO, 2 EARLY. -/
def State.reportDepart (s : State) (t : Nat) (st : TrainState) (event : Nat) (ld : Option Nat) (position : Option Nat)
    (loc : Option Location) : State :=
  s.report .depart (trainHead t (some st) event ++ [.half ld, .small position] ++
    (match loc with | some l => l.items | none => [.code none, .small none]))

/-- STOP: 0 ARRIVED, 1 ENDED, 2 PASSED, 3 UNRELEASED; cause 0 LEFT, 1 COMPLETE, 2 CUT. -/
def State.reportStop (s : State) (t : Nat) (st : TrainState) (event : Nat) (ld : Option Nat) (stop : Nat)
    (go hold dropped carried cause : Option Nat) : State :=
  s.report .stop (trainHead t (some st) event ++
    [.half ld, .small (some stop), .small go, .small hold, .small dropped, .small carried, .code cause])

/-- DROP: 0 DROPPED, 1 LATE, 2 OUT_OF_ORDER. -/
def State.reportDrop (s : State) (t : Nat) (st : TrainState) (event : Nat) (ld : Nat) (d : Drop) (overfill : Option Nat) : State :=
  s.report .drop (trainHead t (some st) event ++
    [.half (some ld), .small (some d.index), .half (some d.call), .half (some d.slot), .half (some d.pieces), .half overfill])

/-- RUN-END: 0 HOME, 1 DISMISSED, 2 RETURNING, 3 PLACED, 4 STRAYED, 5 DEFINED; cause 0 LAST_STOP, 1 CUT, 2 RETURN, 3 MODE,
4 UNRELEASED. The location of STRAYED (R134) stands last, none in the other events (DESIGN CHOICE, unsafe: log entry 38). -/
def State.reportRunEnd (s : State) (t : Nat) (st : Option TrainState) (event : Nat) (ld dropped carried returned : Option Nat)
    (cause : Option Nat) (loc : Option Location) : State :=
  s.report .runEnd (trainHead t st event ++
    [.half ld, .small dropped, .small carried, .small returned, .code cause] ++
    (match loc with | some l => l.items | none => [.code none, .small none]))

/-- CHARGE: 0 WAITING, 1 BEGUN, 2 ENDED. -/
def State.reportCharge (s : State) (t : Nat) (st : TrainState) (event : Nat) (battery position : Option Nat) : State :=
  s.report .charge (trainHead t (some st) event ++ [.small battery, .small position])

/-- HOT: 0 TAKEN, 1 DELIVERED, 2 ABANDONED; place 0 BOX, 1 SHELF; cause 0 HOME, 1 DISMISS, 2 SERVICE (R156 to R158).
No rule lists the three events together; their codes and the place of the event, first, are the model's (DESIGN CHOICE, unsafe: log
entry 38). -/
def State.reportHot (s : State) (event : Nat) (h : Hot) (added overfill place cause : Option Nat) : State :=
  s.report .hot
    [.code (some event), .small (some h.id), .half (some h.slot), .small (some h.containers), .half added, .half overfill,
     .code place, .code cause]

/-! ## Queues, parking and charging (R116, R121, R131, R132) -/

/-- R116: a train becomes PARKED at the tail of the home queue. -/
def State.joinHome (s : State) (t : Nat) : State :=
  { s.modTrain t fun x => { x with state := .parked } with homeQ := s.homeQ ++ [t] }

/-- R117: the coupling test for the loop of a train that has joined the home queue. -/
def State.coupleFor (s : State) (t : Nat) : State :=
  match (tget s.trains t).bind (·.loop) with
  | some l => s.settleLoops [(l, .couple)]
  | none => s

/-- R116, R117: a train parks, and the coupling test is made for its loop. -/
def State.park (s : State) (t : Nat) : State := (s.joinHome t).coupleFor t

/-- R131: trains CHARGING now. -/
def State.chargingCount (s : State) : Nat := (s.trains.filter fun e => e.2.state == .charging).length

/-- R130, R131: a battery known and below the start level. -/
def State.batteryLow (s : State) (tr : Train) : Bool :=
  match tr.battery with
  | some b => decide (b < s.fleet.startLevel)
  | none => false

/-- R131: a train sent to the chargers. Queue positions are counted from 0 (DESIGN CHOICE, unsafe: log entry 35). -/
def State.toChargers (s : State) (t : Nat) : State :=
  match tget s.trains t with
  | none => s
  | some tr =>
    let s1 := { s with homeQ := s.homeQ.filter (· != t) }
    if s.chargingCount < s.fleet.chargers then
      (s1.modTrain t fun x => { x with state := .charging }).reportCharge t .charging 1 tr.battery none
    else
      { (s1.modTrain t fun x => { x with state := .chargeWait }).reportCharge t .chargeWait 0 tr.battery
          (some s.chargeQ.length) with chargeQ := s.chargeQ ++ [t] }

/-- R132: free chargers to the head trains of the charge queue. -/
def freeChargersN : Nat → State → State
  | 0, s => s
  | n + 1, s =>
    match s.chargeQ with
    | [] => s
    | t :: rest =>
      if s.chargingCount < s.fleet.chargers then
        let s1 := { s.modTrain t fun x => { x with state := .charging } with chargeQ := rest }
        freeChargersN n (s1.reportCharge t .charging 1 ((tget s.trains t).bind (·.battery)) none)
      else s

/-- R132. -/
def State.freeChargers (s : State) : State := freeChargersN s.chargeQ.length s

/-- R132, R135: charging ends: PARKED, reported, the freed charger given on, and the coupling test. -/
def State.endCharging (s : State) (t : Nat) : State :=
  (((s.joinHome t).reportCharge t .parked 2 ((tget s.trains t).bind (·.battery)) none).freeChargers).coupleFor t

/-- R130 step 5, R134: a train at home goes to the chargers or parks. -/
def State.settleHome (s : State) (t : Nat) : State :=
  match tget s.trains t with
  | none => s
  | some tr => if s.batteryLow tr then s.toChargers t else s.park t

/-- R130 step 5: the state the train is about to take at home. -/
def State.homeState (s : State) (tr : Train) : TrainState :=
  if s.batteryLow tr then (if s.chargingCount < s.fleet.chargers then .charging else .chargeWait) else .parked

/-- R121: whether the head of the departure queue may receive GO. -/
def State.mayGo (s : State) : Bool :=
  s.mode != .closed && (match s.lastGo with | none => true | some g => reached s.plantTime (g + s.fleet.gap * 10))

/-- R121: GO to the head, and the test again for the new head. -/
def goTestN : Nat → State → State
  | 0, s => s
  | n + 1, s =>
    match s.departQ with
    | [] => s
    | t :: rest =>
      if s.mayGo then
        let s1 := s.modTrain t fun x => { x with state := .onRun, place := some (.leg 0), leg := some 0, leftHome := false }
        let s2 := { s1 with departQ := rest, lastGo := some s.plantTime }
        goTestN n (s2.reportDepart t .onRun 1 (((tget s.trains t).bind (·.load)).map (·.id)) none none)
      else s

/-- R121: the GO test. -/
def State.goTest (s : State) : State := goTestN s.departQ.length s

/-- R120: a READY train at the tail of the departure queue, with DEPART QUEUED. Queue positions are counted from 0 (DESIGN CHOICE, unsafe:
log entry 35). -/
def State.queueDeparture (s : State) (t : Nat) : State :=
  let s1 : State := { s with departQ := s.departQ ++ [t] }
  s1.reportDepart t .ready 0 (((tget s.trains t).bind (·.load)).map (·.id)) (some s.departQ.length) none

/-- R121: the GO test that a train makes by joining the departure queue: made when the queue, as it was before, stood empty. -/
def State.goTestAfter (s : State) (before : List Nat) : State := if before.isEmpty then s.goTest else s

/-- R120, R121: a READY train joins the departure queue, with the GO test. -/
def State.joinDeparture (s : State) (t : Nat) : State := (s.queueDeparture t).goTestAfter s.departQ

/-- R119, R129: a train leaves the departure queue; the GO test is made if it was the head. -/
def State.leaveDeparture (s : State) (t : Nat) : State :=
  if s.departQ.contains t then
    let s1 := { s with departQ := s.departQ.filter (· != t) }
    if s.departQ.head? = some t then s1.goTest else s1
  else s

/-! ## Containers back to their calls (R79) -/

/-- R79: c containers of one LOADED call come back: merged into the OPEN call of its class, or OPEN again. Its slot is recomputed before the
next call comes back (DESIGN CHOICE, unsafe: log entry 31). -/
def State.returnCall (s : State) (id c : Nat) : State :=
  match tget s.calls id with
  | none => s
  | some x =>
    let merge := if x.cls = .seq then none else s.openCall x.slot x.cls
    match merge with
    | some (keep, k) =>
      (((s.removeCall id).modCall keep fun y =>
          { y with containers := y.containers + c, due := min y.due x.due, raisedAt := min y.raisedAt x.raisedAt,
                   returned := true }).reportRaised .merged keep k.containers (some id)).callsChanged x.slot
    | none =>
      ((s.modCall id fun y => { y with state := .opn, containers := c, returned := true, load := none }).reportRaised
        .returned id x.containers none).callsChanged x.slot

/-- The loops whose slots are given an OPEN EXPEDITE call by the return of a call (R97). -/
def State.expediteLoops (s : State) (ids : List Nat) : List Nat :=
  dedup (ids.filterMap fun id =>
    match tget s.calls id with
    | none => none
    | some x => if x.cls = .expedite && (s.openCall x.slot .expedite).isNone then (tget s.slots x.slot).map (·.dfn.loop) else none)

/-- R97: in PAUSE, the opening tests at loops given an OPEN EXPEDITE call. -/
def State.openForExpedite (s : State) (ls : List Nat) : State :=
  if s.mode = .pause then s.settleLoops (ls.map fun l => (l, .openTest)) else s

/-- R79: the containers of the drops given back to their calls, call by call in the order of their first drops (DESIGN CHOICE, unsafe:
log entry 31). -/
def State.returnDrops (s : State) (ds : List Drop) : State :=
  let ids := dedup (ds.map (·.call))
  let loops := s.expediteLoops ids
  (ids.foldl (fun s id => s.returnCall id (ds.filter fun d => d.call == id).length) s).openForExpedite loops

/-! ## Loads on trains -/

/-- A train's load changed by f. -/
def State.modLoad (s : State) (t : Nat) (f : Load → Load) : State := s.modTrain t fun x => { x with load := x.load.map f }

/-- The drops of a train's load. -/
def Train.drops (tr : Train) : List Drop :=
  match tr.load with
  | some ld => ld.drops
  | none => []

def Train.loadId (tr : Train) : Option Nat := tr.load.map (·.id)

/-- The number of drops with a status. -/
def countStatus (ds : List Drop) (st : DropStatus) : Nat := (ds.filter fun d => d.status == st).length

/-- The stop count of a train's loop. -/
def State.stopsOf (s : State) (tr : Train) : Nat :=
  match tr.loop.bind (tget s.loops) with
  | some r => r.dfn.stops
  | none => 0

/-- R123, R126: whether the train's loop is a HOLD loop. -/
def State.holdsAtEnd (s : State) (tr : Train) : Bool :=
  match tr.loop.bind (tget s.loops) with
  | some r => r.dfn.ret == .hold
  | none => false

/-- A drop not yet at its end: PENDING, GO or HOLD. -/
def DropStatus.waits : DropStatus → Bool
  | .pending | .go | .hold => true
  | _ => false

/-- R125: a drop still waiting becomes CARRIED. -/
def Drop.carry (d : Drop) : Drop := if d.status.waits then { d with status := .carried } else d

/-! ## Stops (R123, R125, R126) -/

/-- R125: a stop ends: its waiting drops become CARRIED; STOP ENDED (1) with a cause or PASSED (2). -/
def State.endStop (s : State) (t k : Nat) (st : TrainState) (event : Nat) (cause : Option Nat) : State :=
  match tget s.trains t with
  | none => s
  | some tr =>
    let carried := (tr.drops.filter fun d => d.stop == k).map Drop.carry
    (s.modLoad t fun ld => { ld with drops := ld.drops.map fun d => if d.stop = k then d.carry else d }).reportStop t st event
      tr.loadId k none none (some (countStatus carried .dropped)) (some (countStatus carried .carried)) cause

/-- R125: the slots of the drops that become CARRIED as the stops given end. -/
def Train.waitingAt (tr : Train) (ks : List Nat) : List Nat :=
  (tr.drops.filter fun d => ks.contains d.stop && d.status.waits).map (·.slot)

/-- R123: the marking of one stop's drops in index order; `marked` lists the slots of the drops marked GO so far. -/
def State.markDrops (s : State) (k : Nat) : List Drop → List Nat → List Drop
  | [], _ => []
  | d :: ds, marked =>
    if d.stop = k && d.status = .pending then
      let free := match tget s.slots d.slot with
        | some sl => decide (sl.occupied + (marked.filter (· == d.slot)).length < sl.dfn.p)
        | none => false
      if free then { d with status := .go } :: s.markDrops k ds (marked ++ [d.slot])
      else { d with status := .hold } :: s.markDrops k ds marked
    else d :: s.markDrops k ds marked

/-- R126: RUN-END RETURNING, with the counts of the load, and 0 for returned (DESIGN CHOICE, unsafe: log entry 38). -/
def State.reportReturning (s : State) (t : Nat) (tr : Train) (cause : Nat) : State :=
  s.reportRunEnd t (some .returning) 2 tr.loadId (some (countStatus tr.drops .dropped)) (some (countStatus tr.drops .carried))
    (some 0) (some cause) none

/-- R126: on a HOLD loop the last stop ends with COMPLETE once every drop of it is DROPPED. -/
def State.lastStopCheck (s : State) (t : Nat) : State :=
  match tget s.trains t with
  | none => s
  | some tr =>
    match tr.state, tr.place with
    | .atStop, some (.stop k) =>
      let here := tr.drops.filter fun d => d.stop == k
      if s.holdsAtEnd tr && k + 1 == s.stopsOf tr && here.all fun d => d.status == .dropped then
        let st : TrainState := if s.mode = .closed then .returning else .holding
        let s1 := (s.modTrain t fun x => { x with state := st }).reportStop t st 1 tr.loadId k none none (some here.length) (some 0)
          (some 1)
        if st = .returning then s1.reportReturning t tr 3 else s1
      else s
    | _, _ => s

/-- R123: arrival at stop k. -/
def State.arriveStop (s : State) (t k : Nat) : State :=
  let s1 := s.modTrain t fun x =>
    { x with state := .atStop, place := some (.stop k), leg := some (k + 1),
             load := x.load.map fun ld => { ld with drops := s.markDrops k ld.drops [] } }
  match tget s1.trains t with
  | none => s1
  | some tr =>
    let here := tr.drops.filter fun d => d.stop == k
    (s1.reportStop t .atStop 0 tr.loadId k (some (countStatus here .go)) (some (countStatus here .hold)) none none
      none).lastStopCheck t

/-! ## Done flags (R124) -/

/-- The status and marks of one drop of a train's load changed. -/
def State.modDrop (s : State) (t i : Nat) (f : Drop → Drop) : State :=
  s.modLoad t fun ld => { ld with drops := ld.drops.map fun d => if d.index = i then f d else d }

/-- R78: a container of a call dropped; with the last one the call is complete. -/
def State.deliverCall (s : State) (id : Nat) : State :=
  let s1 := s.modCall id fun c => { c with containers := c.containers - 1, dropped := c.dropped + 1 }
  match tget s1.calls id with
  | some c => if c.containers = 0 then s1.finishCall id .delivered else s1
  | none => s1

/-- R124, R31, R78: a drop becomes DROPPED. R135: the reports of the train, that of a last stop it completes among them, come before
those of the call and the slot. -/
def State.dropDone (s : State) (t : Nat) (tr : Train) (ld : Load) (d : Drop) : State :=
  let overfill := match tget s.slots d.slot with | some sl => sl.cut d.pieces | none => 0
  let s1 := (s.modDrop t d.index fun x => { x with status := .dropped }).reportDrop t tr.state 0 ld.id d (some overfill)
  ((s1.lastStopCheck t).deliverCall d.call).slotEvent d.slot .drop .drop fun sl => sl.deliver d.pieces

/-- R124: the earlier drops of the slot that a SEQ drop must wait for. -/
def State.earlierUndone (s : State) (ld : Load) (d : Drop) : List Drop :=
  match tget s.calls d.call with
  | some c =>
    if c.cls = .seq then ld.drops.filter fun e => e.slot == d.slot && decide (e.index < d.index) && e.status != .dropped else []
  | none => []

/-- R124: one index of the done set (order of the tests: DESIGN CHOICE, unsafe: log entry 19). -/
def State.doneFlag (s : State) (t i : Nat) : State :=
  match tget s.trains t with
  | none => s
  | some tr =>
    match tr.load with
    | none => s
    | some ld =>
      match ld.drops.find? fun d => d.index == i with
      | none => s
      | some d =>
        match d.status with
        | .dropped | .void => s
        | .carried =>
          if d.lateRep then s
          else (s.modDrop t i fun x => { x with lateRep := true }).reportDrop t tr.state 1 ld.id d none
        | _ =>
          let before := s.earlierUndone ld d
          if before.any fun e => e.status.waits then s
          else if before.isEmpty then s.dropDone t tr ld d
          else if d.orderRep then s
          else (s.modDrop t i fun x => { x with orderRep := true }).reportDrop t tr.state 2 ld.id d none

/-- R124: the states in which done flags are taken. -/
def TrainState.onJourney : TrainState → Bool
  | .onRun | .atStop | .holding | .returning => true
  | _ => false

/-- R124, R169: the done set of a reply, in increasing index order. -/
def State.doneSet (s : State) (t loadId : Nat) (done : List Nat) : State :=
  match tget s.trains t with
  | none => s
  | some tr => if tr.state.onJourney && tr.loadId == some loadId then done.foldl (fun s i => s.doneFlag t i) s else s

/-! ## Hot orders (R153 to R158) -/

/-- R153: the box is emptied, and the order, as it leaves it, becomes the last hot order. -/
def Train.emptyBox (tr : Train) (h : Hot) (now : Nat) (way : HotWay) : Train :=
  { tr with hotBox := none, lastHot := some ⟨h, now, way⟩ }

/-- R156: the order in the box is taken. HOT TAKEN carries the hot id, the slot and the containers, and none for the place (DESIGN CHOICE,
unsafe: log entry 38). -/
def State.takeHot (s : State) (t : Nat) (h : Hot) : State :=
  let h1 := { h with takenAt := some s.plantTime, place := .shelf }
  (s.modTrain t fun x => { x.emptyBox h1 s.plantTime .taken with shelf := x.shelf ++ [h1] }).reportHot 0 h1 none none none none

/-- R156: the hot taken id of a reply. -/
def State.hotTaken (s : State) (t id : Nat) : State :=
  match (tget s.trains t).bind (·.hotBox) with
  | some h => if id ≠ 0 && h.id = id then s.takeHot t h else s
  | none => s

/-- R157: one delivered id. -/
def State.hotDone (s : State) (t id : Nat) : State :=
  let s1 := s.hotTaken t id
  match tget s1.trains t with
  | none => s1
  | some tr =>
    match tr.shelf.find? fun h => h.id == id with
    | none => s1
    | some h =>
      let overfill := match tget s1.slots h.slot with
        | some sl => (h.containers * sl.dfn.q - sl.cut (h.containers * sl.dfn.q), sl.cut (h.containers * sl.dfn.q))
        | none => (0, 0)
      ((s1.modTrain t fun x => { x with shelf := x.shelf.filter fun y => y.id != id }).reportHot 1 h (some overfill.1) (some overfill.2)
        none none).hotDelivered h.slot h.containers

/-- R158: the orders a train holds: that of the box first, then those of the shelf in their order. -/
def Train.orders (tr : Train) : List Hot := tr.hotBox.toList ++ tr.shelf

/-- R158: a train's box and shelf emptied; an order abandoned from the box becomes the last hot order. -/
def Train.dropOrders (tr : Train) (now : Nat) : Train :=
  { (match tr.hotBox with | some h => tr.emptyBox h now .abandoned | none => tr) with shelf := [] }

/-- R158: the orders of a train taken from it, each with its HOT report. -/
def State.clearHot (s : State) (t cause : Nat) (orders : List Hot) : State :=
  orders.foldl (fun s h => s.reportHot 2 h none none (some h.place.code) (some cause))
    (s.modTrain t fun x => x.dropOrders s.plantTime)

/-- R32, R158: abandoned orders handed to the Slot Table, one after the other. -/
def State.releaseHot (s : State) (orders : List Hot) : State := orders.foldl (fun s h => s.hotAbandoned h.slot h.containers) s

/-- R135, R158: every order of a train abandoned. The HOT reports come before those of the slots they change. -/
def State.abandonHot (s : State) (t cause : Nat) : State :=
  match tget s.trains t with
  | none => s
  | some tr => (s.clearHot t cause tr.orders).releaseHot tr.orders

/-! ## The run (R122, R125 to R127, R130) -/

/-- The place of a location along a run of n stops; none for an unknown location or one outside the loop (R167). -/
def Location.rank (n : Nat) : Location → Option Nat
  | .home => some (2 * n + 1)
  | .leg k => if k ≤ n then some (2 * k) else none
  | .stop k => if k < n then some (2 * k + 1) else none
  | .unknown => none

def Place.rank : Place → Nat
  | .leg k => 2 * k
  | .stop k => 2 * k + 1

/-- 6.6: whether a location is ahead of the train's place. -/
def Train.ahead (tr : Train) (n : Nat) (loc : Location) : Bool :=
  match loc.rank n, tr.place with
  | some r, some p => decide (p.rank < r)
  | _, _ => false

/-- R125: the next stop after a place. -/
def Place.nextStop : Place → Nat
  | .leg k => k
  | .stop k => k + 1

/-- R125: the stops before a location that have then been passed. -/
def Location.stopsBefore (n : Nat) : Location → Nat
  | .home => n
  | .leg k => k
  | .stop k => k
  | .unknown => 0

/-- R125 step 1: the stop a train stands at. -/
def Train.hereStop (tr : Train) : List Nat :=
  match tr.state, tr.place with
  | .atStop, some (.stop k) => [k]
  | _, _ => []

/-- R125 step 2: the stops passed before `upTo`. -/
def Train.passedStops (tr : Train) (upTo : Nat) : List Nat :=
  match tr.place with
  | none => []
  | some p => (List.range upTo).filter fun j => decide (p.nextStop ≤ j)

/-- R125 step 1: the current stop ends with LEFT. `st`: the state after the event. -/
def State.endHere (s : State) (t : Nat) (tr : Train) (st : TrainState) : State :=
  tr.hereStop.foldl (fun s k => s.endStop t k st 1 (some 0)) s

/-- R125 step 2: the stops passed end with PASSED, in stop order. -/
def State.endPassed (s : State) (t : Nat) (tr : Train) (upTo : Nat) (st : TrainState) : State :=
  (tr.passedStops upTo).foldl (fun s k => s.endStop t k st 2 none) s

/-- R125 steps 1 and 2, each with the recomputations it starts after its STOP reports (R135; that R125 counts as an event taken in
numbered steps: DESIGN CHOICE, unsafe: log entry 36). -/
def State.endStopsBefore (s : State) (t : Nat) (tr : Train) (upTo : Nat) (st : TrainState) : State :=
  (((s.endHere t tr st).callsChangedAt (tr.waitingAt tr.hereStop)).endPassed t tr upTo st).callsChangedAt
    (tr.waitingAt (tr.passedStops upTo))

/-- R130 step 1: the current stop and every stop not yet ended end; the STOP reports come before the recomputations (R135). -/
def State.endAllStops (s : State) (t : Nat) (tr : Train) (n : Nat) (st : TrainState) : State :=
  ((s.endHere t tr st).endPassed t tr n st).callsChangedAt (tr.waitingAt (tr.hereStop ++ tr.passedStops n))

/-- R130: arrival home. RUN-END HOME gives the CARRIED count as returned too (DESIGN CHOICE, unsafe: log entry 38). -/
def State.arriveHome (s : State) (t : Nat) : State :=
  match tget s.trains t with
  | none => s
  | some tr0 =>
    let st := s.homeState tr0
    let s1 := if tr0.state = .onRun || tr0.state = .atStop then s.endAllStops t tr0 (s.stopsOf tr0) st else s
    match tget s1.trains t with
    | none => s1
    | some tr =>
      let back := tr.drops.filter fun d => d.status == .carried
      let s2 := s1.returnDrops back
      let s3 := s2.abandonHot t 0
      let s4 := (s3.modTrain t fun x => { x with load := none, place := none, leg := none, coupledAt := none }).reportRunEnd t
        (some st) 0 tr.loadId (some (countStatus tr.drops .dropped)) (some back.length) (some back.length) none none
      s4.settleHome t

/-- The place a location sets. -/
def Location.place : Location → Option Place
  | .leg k => some (.leg k)
  | .stop k => some (.stop k)
  | _ => none

/-- R122: the current leg that follows a place. -/
def Place.nextLeg : Place → Nat
  | .leg k => k
  | .stop k => k + 1

/-- R122: the place, and with it the current leg. -/
def Train.setPlace (tr : Train) (p : Place) : Train := { tr with place := some p, leg := some p.nextLeg }

/-- R125: an ON_RUN or AT_STOP train taken ahead of its place. -/
def State.moveOn (s : State) (t : Nat) (tr : Train) (loc : Location) : State :=
  let n := s.stopsOf tr
  match loc with
  | .stop k => (s.endStopsBefore t tr k .atStop).arriveStop t k
  | .leg k =>
    let st : TrainState := if k < n then .onRun else .returning
    let s1 := (s.endStopsBefore t tr k st).modTrain t fun x => { x.setPlace (.leg k) with state := st }
    match tget s1.trains t with
    | some tr1 => if st = .returning then s1.reportReturning t tr1 0 else s1
    | none => s1
  | .home => s.arriveHome t
  | .unknown => s

/-- R134, R135: an UNPLACED train at HOME: its orders abandoned, RUN-END PLACED, the chargers with their CHARGE report (DESIGN CHOICE,
unsafe: log entry 15) or the home queue; then the slots of the
orders, and, for a train that parks, the coupling test. -/
def State.place (s : State) (t : Nat) (tr : Train) : State :=
  let s1 := (s.clearHot t 0 tr.orders).reportRunEnd t (some (s.homeState tr)) 3 none none none none none none
  if s.batteryLow tr then (s1.toChargers t).releaseHot tr.orders
  else ((s1.joinHome t).releaseHot tr.orders).coupleFor t

/-- R134: a parked, waiting or charging train away from home. -/
def State.stray (s : State) (t : Nat) (loc : Location) : State :=
  let s1 := { s with homeQ := s.homeQ.filter (· != t), chargeQ := s.chargeQ.filter (· != t) }
  ((s1.modTrain t fun x => { x with state := .unplaced }).reportRunEnd t (some .unplaced) 4 none none none none none
    (some loc)).freeChargers

/-- R122: the location recorded, and left home noted. It is noted on a run only, from GO to the end of the run (DESIGN CHOICE, unsafe: log
entry 42). -/
def Train.record (tr : Train) (loc : Location) : Train :=
  { tr with
    location := loc
    leftHome := tr.leftHome || (tr.state.onJourney && (match loc with | .leg _ => true | .stop _ => true | _ => false)) }

/-- R126: a HOLDING train ahead of its place. STOP UNRELEASED comes before RUN-END RETURNING and before the reports of the arrival home
(DESIGN CHOICE, unsafe: log entry 15). -/
def State.unreleased (s : State) (t : Nat) (tr : Train) (loc : Location) : State :=
  let stop := match tr.place with | some (.stop k) => k | some (.leg k) => k | none => 0
  match loc.place with
  | some p =>
    (((s.modTrain t fun x => { x.setPlace p with state := .returning }).reportStop t .returning 3 tr.loadId stop none none none none
      none).reportReturning t tr 4)
  | none => (s.reportStop t (s.homeState tr) 3 tr.loadId stop none none none none none).arriveHome t

/-- R122: a location acted on by the train's state, once recorded. -/
def State.actOnLocation (s : State) (t : Nat) (tr : Train) (loc : Location) : State :=
  match tr.state with
  | .unplaced => if loc = .home then s.place t tr else s
  | .parked | .chargeWait | .charging => if loc = .home then s else s.stray t loc
  | .coupling | .ready =>
    if loc = .home || tr.earlyRep then s
    else (s.modTrain t fun x => { x with earlyRep := true }).reportDepart t tr.state 2 tr.loadId none (some loc)
  | .onRun | .atStop =>
    if loc = .home && !tr.leftHome then s else if tr.ahead (s.stopsOf tr) loc then s.moveOn t tr loc else s
  | .holding => if tr.ahead (s.stopsOf tr) loc then s.unreleased t tr loc else s
  | .returning =>
    if tr.ahead (s.stopsOf tr) loc then
      match loc.place with
      | some p => s.modTrain t fun x => x.setPlace p
      | none => s.arriveHome t
    else s
  | .outOfService => s

/-- R122, R167: the location of a reply; an unknown location is recorded and acted on in no state. -/
def State.takeLocation (s : State) (t : Nat) (loc : Location) : State :=
  let s1 := s.modTrain t fun x => x.record loc
  match tget s1.trains t with
  | none => s1
  | some tr => if loc = .unknown then s1 else s1.actOnLocation t tr loc

/-! ## Coupled flag, notes, battery (R118, R159, R131, R132) -/

/-- The dispatch of a train's loop. -/
def State.autoDispatch (s : State) (tr : Train) : Bool :=
  match tr.loop.bind (tget s.loops) with
  | some r => r.dfn.dispatch == .auto
  | none => false

/-- R118: whether a coupled flag naming a load is taken. -/
def Train.takesCoupled (tr : Train) (loadId : Nat) (coupled : Bool) : Bool :=
  coupled && tr.state == .coupling && tr.loadId == some loadId

/-- R118: the coupled flag of a reply: READY, COUPLE CONFIRMED, and on an AUTO loop the tail of the departure queue. The GO test that
joining an empty queue calls for (R121) is `goTestAfter`, made by the reply. -/
def State.coupledFlag (s : State) (t loadId : Nat) (coupled : Bool) : State :=
  match tget s.trains t with
  | none => s
  | some tr =>
    match tr.load with
    | none => s
    | some ld =>
      if tr.takesCoupled loadId coupled then
        let s1 := (s.modTrain t fun x => { x with state := .ready }).reportCouple t .ready 1 ld none
        if s.autoDispatch tr then s1.queueDeparture t else s1
      else s

/-- R118: a train in COUPLING at the couple limit, not yet reported. -/
def State.coupleLate (s : State) (tr : Train) : Bool :=
  tr.state == .coupling && !tr.lateRep &&
    (match tr.coupledAt with | some c => reached s.plantTime (c + s.fleet.coupleLimit * 10) | none => false)

/-- R118: COUPLE LATE, where it is due. -/
def State.lateIfDue (s : State) (t : Nat) : State :=
  match tget s.trains t with
  | none => s
  | some tr =>
    match tr.load with
    | some ld =>
      if s.coupleLate tr then (s.modTrain t fun x => { x with lateRep := true }).reportCouple t .coupling 2 ld none else s
    | none => s

/-- R131, R132: the battery level of a reply; above 100 it is not taken (R167). -/
def State.takeBattery (s : State) (t level : Nat) : State :=
  if 100 < level then s
  else
    let s1 := s.modTrain t fun x => { x with battery := some level }
    match tget s1.trains t with
    | none => s1
    | some tr =>
      if tr.state = .parked && s1.batteryLow tr then s1.toChargers t
      else if tr.state = .charging && decide (s.fleet.endLevel ≤ level) then s1.endCharging t
      else s1

/-- R159: NOTE: the event first, 0 TAKEN, 1 MALFORMED (DESIGN CHOICE, unsafe: log entry 38); with the train's state and
location after the reply (`after`). -/
def State.reportNote (s : State) (t event number code : Nat) (slot : Option Nat) (after : Train) : State :=
  s.report .note
    ([.code (some event), .small (some t), .small (some number), .code (some code), .half slot, .code (some after.state.code)] ++
      after.location.items)

/-- R159: the note items of a reply; `shown` is the note-box-full flag of the poll it answers, `after` the train as the rest of
the reply leaves it. A MALFORMED note reports a slot above 383 as none, as one that is held (DESIGN CHOICE, unsafe: log entry 38). -/
def State.takeNote (s : State) (t number code slot : Nat) (shown : Bool) (after : Train) : State :=
  match tget s.trains t with
  | none => s
  | some tr =>
    if number ≠ 0 && tr.lastNoteNo ≠ some number && tr.noteBox.isNone && !shown then
      let at_ := if slot ≤ 383 then some slot else none
      if 1 ≤ code && code ≤ 5 then
        (s.modTrain t fun x => { x with noteBox := some ⟨number, code, at_, s.plantTime⟩, lastNoteNo := some number }).reportNote
          t 0 number code at_ after
      else (s.modTrain t fun x => { x with lastNoteNo := some number }).reportNote t 1 number code at_ after
    else s

end Sys2Proof.Machine
end

