-- ==== Sys2Proof/Machine/FieldLink.lean ====
section
/-! DEFINITION. The Field Link: terminal records, the rotation, the polls, and what a reply or a miss does (R41, R42, R162 to
R172, R184). -/

namespace Sys2Proof.Machine

/-! ## Terminal records and rotation (R162, R163) -/

/-- R162: a terminal record as it begins. -/
def Terminal.fresh : Terminal := ⟨false, 0, none, false⟩

/-- R162: a terminal joins a rotation, unless it is there. -/
def FieldLink.join (l : FieldLink) (address : Nat) : FieldLink :=
  if tdefined l.terminals address then l else { l with terminals := tset l.terminals address .fresh }

/-- R163: the terminal polled next: the lowest address above the last one polled, else the lowest. -/
def FieldLink.nextAddress (l : FieldLink) : Option Nat :=
  match l.lastAddr with
  | none => (tkeys l.terminals).head?
  | some a =>
    match (tkeys l.terminals).find? fun x => decide (a < x) with
    | some x => some x
    | none => (tkeys l.terminals).head?

/-- R163: whether the next exchange may begin. The first one after a restart has no poll before it and begins at once (DESIGN CHOICE,
unsafe: log entry 40). -/
def FieldLink.mayPoll (l : FieldLink) : Bool :=
  l.exchange.isNone && (match l.sincePoll with | none => true | some ms => decide (l.interval ≤ ms)) && !l.terminals.isEmpty

/-! ## Polls (R41, R166, R170, R184) -/

/-- R143: the zones of which a train is an occupant, as a bit set. -/
def State.grantedZones (s : State) (t : Nat) : Nat :=
  (s.zones.filterMap fun e => if e.2.holds t then some (2 ^ e.1) else none).sum

/-- R184: one drop of a train poll. Items of several bytes of all four snapshots go most significant byte first (DEDUCED, unsafe: log entry
6). -/
def State.dropBytes (s : State) (d : Drop) : List Byte :=
  [byte d.index] ++ bytes2 d.slot ++ bytes2 ((s.partKey d.slot).getD 0) ++
    [byte d.stop, byte d.wagon, byte d.unit, byte d.size] ++ bytes2 d.pieces ++ [byte d.status.code]

/-- R184: the hot box items of a train poll, bytes 7 to 15. -/
def State.hotBoxBytes (s : State) : Option Hot → List Byte
  | none => List.replicate 9 0
  | some h =>
    [byte h.id] ++ bytes2 h.slot ++ bytes2 ((s.partKey h.slot).getD 0) ++ [byte h.containers] ++
      (match tget s.slots h.slot with
       | some sl => [byte sl.dfn.station, byte sl.dfn.loop, byte sl.dfn.stop]
       | none => [0, 0, 0])

/-- R166, R184: the train order snapshot. Bits 3 to 7 of byte 4 are 0 (DESIGN CHOICE, unsafe: log entry 43). -/
def State.trainPoll (s : State) (t : Nat) (tr : Train) : List Byte :=
  [byte tr.state.code, byte s.mode.code] ++ bytes2 (tr.loadId.getD 0) ++
    [byte (bitSet [tr.state.onJourney, tr.noteBox.isSome, tr.hotBox.isSome])] ++ bytes2 (s.grantedZones t) ++
    s.hotBoxBytes tr.hotBox ++
    [byte tr.shelf.length, byte ((tr.shelf[0]?.map (·.id)).getD 0), byte ((tr.shelf[1]?.map (·.id)).getD 0), byte tr.drops.length] ++
    tr.drops.flatMap s.dropBytes

/-- R41: the defined slot assigned to a rack address and channel. -/
def State.slotAt (s : State) (address channel : Nat) : Option (Nat × Slot) :=
  s.slots.find? fun e => e.2.dfn.rack == some ⟨address, channel⟩

/-- R41, R170, R184: the rack poll to a terminal. Bits 2 to 6 of each byte are 0 (DESIGN CHOICE, unsafe: log entry 43). -/
def State.rackPoll (s : State) (address : Nat) : List Byte :=
  (List.range 16).map fun ch =>
    match s.slotAt address ch with
    | some (id, sl) => byte (sl.aspect + (if s.inbound id sl then 128 else 0))
    | none => 0

/-- The poll body for a terminal address of a link. -/
def State.pollBody (s : State) (l : Link) (address : Nat) : List Byte :=
  match l with
  | .rack => s.rackPoll (address - 0x40)
  | .train =>
    match tget s.trains (address - 0x10) with
    | some tr => s.trainPoll (address - 0x10) tr
    | none => []

/-- R166: whether a poll shows the note box full. -/
def State.pollShowsBox (s : State) (l : Link) (address : Nat) : Bool :=
  match l with
  | .rack => false
  | .train => (match tget s.trains (address - 0x10) with | some tr => tr.noteBox.isSome | none => false)

/-- R163: an exchange begins. The note-box-full flag of its poll is held for the reply (R159) and in the terminal record (R166). -/
def State.poll (s : State) (l : Link) : State :=
  let f := s.link l
  if f.mayPoll then
    match f.nextAddress with
    | none => s
    | some a =>
      let body := s.pollBody l a
      let shown := s.pollShowsBox l a
      { s.setLink l { f with
          terminals := tmod f.terminals a fun x => { x with boxShown := shown }
          lastAddr := some a, exchange := some a, sincePoll := some 0, pollShown := shown } with
        sent := s.sent ++ [.poll l a body] }
  else s

/-! ## Link state (R164, R165) -/

def linkCode : Link → Nat
  | .train => 0
  | .rack => 1

/-- R171: LINK: the link, the address, the new state (0 ALIVE, 1 LOST), last good reply at. -/
def State.reportLink (s : State) (l : Link) (a : Nat) (alive : Bool) (lastGood : Option Nat) : State :=
  s.report .link [.code (some (linkCode l)), .small (some a), .code (some (if alive then 0 else 1)), .time lastGood]

/-- R42, R165: the baselines of every defined slot that names a rack address become unset. -/
def State.unsetBaselines (s : State) (address : Nat) : State :=
  { s with slots := tmap (fun _ sl =>
      if sl.dfn.rack.map (·.address) = some address then { sl with pullBase := none, tallyBase := none } else sl) s.slots }

/-- One terminal record changed. -/
def State.modTerminal (s : State) (l : Link) (a : Nat) (f : Terminal → Terminal) : State :=
  s.setLink l { s.link l with terminals := tmod (s.link l).terminals a f }

/-- R164: the exchange ends. -/
def State.endExchange (s : State) (l : Link) : State := s.setLink l { s.link l with exchange := none }

/-- R162: the receive error count of a link raised. -/
def State.linkError (s : State) (l : Link) : State := s.setLink l { s.link l with errors := raiseCount (s.link l).errors }

/-- R164, R165: a miss of the terminal polled; the third in a row makes it LOST. -/
def State.miss (s : State) (l : Link) (counted : Bool) : State :=
  match (s.link l).exchange with
  | none => s
  | some a =>
    let s1 := s.endExchange l
    let s2 := if counted then s1.linkError l else s1
    match tget (s2.link l).terminals a with
    | none => s2
    | some x =>
      if !x.alive then s2
      else if x.misses + 1 < 3 then s2.modTerminal l a fun x => { x with misses := x.misses + 1 }
      else
        let s3 := (s2.modTerminal l a fun x => { x with alive := false, misses := 0 }).reportLink l a false x.lastGood
        match l with
        | .rack => s3.unsetBaselines (a - 0x40)
        | .train => s3

/-- R164, R165: a good reply: the exchange ends, the record is brought up to date, and a LOST terminal turns ALIVE, reported with the
time of this reply (DESIGN CHOICE, unsafe: log entry 39). -/
def State.goodReply (s : State) (l : Link) (a : Nat) (x : Terminal) : State :=
  let s1 := (s.endExchange l).modTerminal l a fun x => { x with alive := true, misses := 0, lastGood := some s.plantTime }
  if x.alive then s1 else s1.reportLink l a true (some s.plantTime)

/-- R164: what a received frame is on a link with terminal `a` polled: the body of a good reply, or none. -/
def replyBody (l : Link) (a : Nat) (bs : List Byte) : Option (List Byte) :=
  match readFrame bs with
  | .frame good address kind tag body =>
    if good && address.toNat == a && kind == replyKind l && tag == 0 then some body else none
  | _ => none

/-- R164: bytes on a link with no exchange in progress are discarded; a frame formed of them with a bad check is counted, also one whose
reception began before a restart (DESIGN CHOICE, unsafe: log entry 22). -/
def State.strayBytes (s : State) (l : Link) (bs : List Byte) : State :=
  match readFrame bs with
  | .frame false _ _ _ _ => s.linkError l
  | _ => s

/-! ## The train reply (R167, R168, R184) -/

/-- R167: the items of a train report snapshot, as taken. -/
structure TrainReport where
  location : Location
  load : Nat
  coupled : Bool
  done : List Nat
  gate : Option Nat
  taken : Nat
  delivered : List Nat
  noteNumber : Nat
  noteCode : Nat
  noteSlot : Nat
  battery : Nat
  held : List Nat
  deriving DecidableEq, Repr

/-- R184: location kind and number. -/
def readLocation (kind number : Byte) : Location :=
  if kind = 0 then .home else if kind = 1 then .leg number.toNat else if kind = 2 then .stop number.toNat else .unknown

/-- R184: the indices whose bit is set, lowest first. -/
def bitIndices (n : Nat) : List Nat := (List.range 32).filter fun i => n.testBit i

/-- R184: the train reply body: 20 bytes and one per zone held, with its count limits. R167: ids above 15 and repeats are
dropped from the zones held; a gate above 15 is taken as none. Items of several bytes come most significant byte first (DEDUCED, unsafe: log
entry 6). A byte that is not 0 in an unused place, bits 1 to 7 of byte 4, and the number of a HOME or unknown location are ignored
(DESIGN CHOICE, unsafe: log entry 22). -/
def readTrainReport : List Byte → Option TrainReport
  | k :: num :: l1 :: l0 :: c :: d3 :: d2 :: d1 :: d0 :: gate :: taken :: dc :: h0 :: h1 :: nn :: nc :: s1 :: s0 :: bat :: zc :: zs =>
    if dc.toNat ≤ 2 && zc.toNat ≤ 16 && zs.length == zc.toNat then
      some {
        location := readLocation k num
        load := nat2 l1 l0
        coupled := c.toNat.testBit 0
        done := bitIndices (nat4 d3 d2 d1 d0)
        gate := if gate.toNat ≤ 15 then some gate.toNat else none
        taken := taken.toNat
        delivered := ([h0, h1].take dc.toNat).map (·.toNat)
        noteNumber := nn.toNat
        noteCode := nc.toNat
        noteSlot := nat2 s1 s0
        battery := bat.toNat
        held := dedup ((zs.map (·.toNat)).filter fun z => decide (z ≤ 15)) }
    else none
  | _ => none

/-- R147, R168 step 9: the lapse check of a link just returned, at every zone in rising id order. -/
def State.lapseCheck (s : State) (t : Nat) : State := (tkeys s.zones).foldl (fun s z => s.lapseIfDue z t) s

/-- R168 steps 8 and 9. -/
def State.replyEnd (s : State) (t : Nat) (r : TrainReport) (returned : Bool) : State :=
  let s1 := s.takeBattery t r.battery
  if returned then s1.lapseCheck t else s1

/-- R122: a location away from home. -/
def Location.away : Location → Bool
  | .leg _ | .stop _ => true
  | .home | .unknown => false

/-- R168 steps 2 and 3: the done set and the hot items. -/
def State.replyDeliveries (s : State) (t : Nat) (r : TrainReport) : State :=
  r.delivered.foldl (fun s id => s.hotDone t id) ((s.doneSet t r.load r.done).hotTaken t r.taken)

/-- R118, R168: whether a reply's coupled flag puts its train into the departure queue. -/
def State.queuesBy (s : State) (t : Nat) (r : TrainReport) : Bool :=
  match tget s.trains t with
  | none => false
  | some tr => tr.takesCoupled r.load r.coupled && s.autoDispatch tr

/-- R168 steps 1 to 4. The GO test of a train that step 1 puts into an empty departure queue (R121) is made in step 1. Where the same
reply shows the train away from home, R168 has it still READY in step 4, so that its location is not taken and DEPART EARLY is sent:
the GO test then follows step 4 (DESIGN CHOICE, unsafe: log entry 37). -/
def State.replyMoves (s : State) (t : Nat) (r : TrainReport) : State :=
  let s1 := s.coupledFlag t r.load r.coupled
  if s.queuesBy t r then
    if r.location.away then ((s1.replyDeliveries t r).takeLocation t r.location).goTestAfter s.departQ
    else ((s1.goTestAfter s.departQ).replyDeliveries t r).takeLocation t r.location
  else (s1.replyDeliveries t r).takeLocation t r.location

/-- R168 steps 1 to 6. -/
def State.replyItems (s : State) (t : Nat) (r : TrainReport) : State :=
  ((s.replyMoves t r).gateWanted t r.gate).zonesHeld t r.held

/-- R168: the items of a good reply in their order; `shown`: the note box as the answered poll showed it. The NOTE report of
step 7 carries the train as steps 8 and 9 leave it (R159). -/
def State.takeTrainReport (s : State) (t : Nat) (r : TrainReport) (shown returned : Bool) : State :=
  let s1 := s.replyItems t r
  match tget (s1.replyEnd t r returned).trains t with
  | none => s1.replyEnd t r returned
  | some after => (s1.takeNote t r.noteNumber r.noteCode r.noteSlot shown after).replyEnd t r returned

/-- R164, R168: bytes that answer the poll of a train terminal; they are taken for the record the train has now (DESIGN CHOICE, unsafe: log
entry 22), the note by the note-box-full flag of the poll answered (R159). -/
def State.trainReply (s : State) (bs : List Byte) : State :=
  match s.trainLink.exchange with
  | none => s.strayBytes .train bs
  | some a =>
    match (replyBody .train a bs).bind readTrainReport with
    | none => s.miss .train (bs.contains 0x5A#8)
    | some r =>
      match tget s.trainLink.terminals a with
      | none => s.endExchange .train
      | some x => (s.goodReply .train a x).takeTrainReport (a - 0x10) r s.trainLink.pollShown (!x.alive)

/-! ## The rack reply (R170, R184) -/

/-- R184: 64 bytes: pull counter, tally number, tally quantity for each of n channels, the quantity most significant byte first (DEDUCED,
unsafe: log entry 6). -/
def readChannels : Nat → List Byte → Option (List (Nat × Nat × Nat))
  | 0, [] => some []
  | n + 1, p :: t :: q1 :: q0 :: rest => (readChannels n rest).map ((p.toNat, t.toNat, nat2 q1 q0) :: ·)
  | _, _ => none

/-- R170: the new pulls, clamped at P. -/
def newPulls (p counter base : Nat) : Nat := min p ((counter + 256 - base) % 256)

/-- n pulls, one at a time. -/
def pullN : Nat → Nat → State → State
  | 0, _, s => s
  | n + 1, id, s => pullN n id (s.pull id)

/-- R42, R170: one channel of a rack reply. -/
def State.takeChannel (s : State) (address ch : Nat) (v : Nat × Nat × Nat) : State :=
  match s.slotAt address ch with
  | none => s
  | some (id, sl) =>
    match sl.pullBase, sl.tallyBase with
    | some pb, some tb =>
      let s1 := (pullN (newPulls sl.dfn.p v.1 pb) id s).modSlot id fun x => { x with pullBase := some v.1 }
      if v.2.1 = tb then s1
      else (s1.tally id v.2.2).1.modSlot id fun x => { x with tallyBase := some v.2.1 }
    | _, _ => s.modSlot id fun x => { x with pullBase := some v.1, tallyBase := some v.2.1 }

/-- R170: the channels in rising order (DESIGN CHOICE, unsafe: log entry 9). -/
def State.takeChannels (s : State) (address : Nat) (vs : List (Nat × Nat × Nat)) : State :=
  (vs.zipIdx).foldl (fun s e => s.takeChannel address e.2 e.1) s

/-- R164, R170: bytes that answer the poll of a rack terminal. -/
def State.rackReply (s : State) (bs : List Byte) : State :=
  match s.rackLink.exchange with
  | none => s.strayBytes .rack bs
  | some a =>
    match (replyBody .rack a bs).bind (readChannels 16) with
    | none => s.miss .rack (bs.contains 0x5A#8)
    | some vs =>
      match tget s.rackLink.terminals a with
      | none => s.endExchange .rack
      | some x => (s.goodReply .rack a x).takeChannels (a - 0x40) vs

end Sys2Proof.Machine
end

