-- ==== Sys2Proof/Machine/Store.lean ====
section
/-! DEFINITION. The Configuration Store and the restarts (R45, R86, R110, R137, R152, R161, R172, R179 to R182, 10.7). -/

namespace Sys2Proof.Machine

/-- The kinds of restart (R181). -/
inductive RestartKind where
  | power | full | shift
  deriving DecidableEq, Repr

def RestartKind.code : RestartKind → Nat | .power => 0 | .full => 1 | .shift => 2

/-- R180: whether the stored image is good: its check matches and no BAD mark stands. -/
def State.imageGood (s : State) : Bool := s.imageCheck && !s.badMark

/-- R23, R45: a slot with fresh running fields. -/
def freshSlot (d : SlotDefn) : Slot :=
  ⟨d, false, 0, 0, none, none, none, 0, 0, 0, 0, ⟨false, false, false, false⟩, 0⟩

/-- R45, shift restart: counted, F and STARVED kept. -/
def keptSlot (sl : Slot) : Slot :=
  { freshSlot sl.dfn with counted := sl.counted, f := sl.f, flags := ⟨false, false, sl.flags.starved, false⟩ }

/-- R110: a loop after a restart, and a loop just defined. -/
def freshLoop (d : LoopDefn) : LoopRec := ⟨d, .shut, none, none, none, [], .empty⟩

/-- R112, R137, R161: a train after a restart, and a train just defined. -/
def freshTrain (loop : Option Nat) : Train :=
  ⟨loop, .unplaced, none, false, .unknown, none, none, none, none, false, false, none, [], none, none, none, none, ⟨none, none⟩⟩

/-- R140, R152: a zone after a restart, and a zone just defined. -/
def freshZone (d : ZoneDefn) : Zone := ⟨d, [], [], [], []⟩

/-- R172: a link with its rotation rebuilt. -/
def freshLink (interval : Nat) (addresses : List Nat) : FieldLink :=
  addresses.foldl FieldLink.join (FieldLink.fresh interval)

/-- R172: the rack terminal addresses named by defined slots. -/
def rackAddresses (slots : Table Slot) : List Nat := slots.filterMap fun e => e.2.dfn.rack.map fun r => rackAddress r.address

/-- R182: the restart cause set after a restart. -/
def Causes.after (c : Causes) (k : RestartKind) (imageBad : Bool) : Causes :=
  match k with
  | .power => ⟨true, false, false, imageBad⟩
  | .full => { c with full := true, image := c.image || imageBad }
  | .shift => { c with shift := true }

/-- R181 step 3: every block with the configuration in force and its restart values. What stands outside the restart is kept:
the stored image with its check and mark, the telegrams sent, and the commands waiting. A POWER_UP in the middle of a store, with no
POWER_LOSS before it, ends the store and reads the check as it stood (DESIGN CHOICE, unsafe: log entry 18). -/
def State.blocks (s : State) (cfg : Image) (slots : Table Slot) : State where
  plantTime := 0
  msPart := 0
  stations := cfg.stations
  takt := cfg.takt
  mode := .closed
  lineArray := List.replicate cfg.stations none
  announced := []
  highest := none
  slots := slots
  calls := []
  nextCall := 1
  fullReported := false
  mask := cfg.mask
  loops := tmap (fun _ d => freshLoop d) cfg.loops
  nextLoad := 1
  trains := tmap (fun _ l => freshTrain l) cfg.trains
  fleet := cfg.fleet
  homeQ := []
  departQ := []
  chargeQ := []
  lastGo := none
  nextHot := 1
  zones := tmap (fun _ d => freshZone d) cfg.zones
  gateLimit := cfg.gateLimit
  grantLimit := cfg.grantLimit
  trainLink := freshLink cfg.trainPoll ((tkeys cfg.trains).map trainAddress)
  rackLink := freshLink cfg.rackPoll (rackAddresses slots)
  requestQueue := []
  reportQueue := []
  gap := false
  lineErrors := 0
  image := s.image
  imageCheck := s.imageCheck
  badMark := s.badMark
  imageState := s.imageState
  store := .idle
  causes := s.causes
  sent := s.sent
  pending := s.pending

/-- R180: the configuration a restart puts in force. -/
def State.configFor (s : State) : RestartKind → Image
  | .shift => s.config
  | _ => if s.imageGood then s.image else .default

/-- R45: the slot records a restart leaves. -/
def State.slotsFor (s : State) : RestartKind → Table Slot
  | .shift => tmap (fun _ sl => keptSlot sl) s.slots
  | k => tmap (fun _ d => freshSlot d) (s.configFor k).slots

/-- R180: the image state a restart leaves. -/
def State.imageStateFor (s : State) : RestartKind → ImageState
  | .shift => s.imageState
  | _ => if s.imageGood then .good else .bad

/-- R181 steps 3 to 5: the blocks, the cause set, and the RESTART report, first in the new report queue. -/
def State.restarted (s : State) (k : RestartKind) : State :=
  let causes := s.causes.after k (match k with | .shift => false | _ => !s.imageGood)
  let st := s.imageStateFor k
  { s.blocks (s.configFor k) (s.slotsFor k) with causes := causes, imageState := st }.report .restart
    [.code (some k.code), causes.item, .code (some (match st with | .good => 0 | .bad => 1))]

/-- R181 steps 3 to 6: with the restart recomputation of every defined slot (R45). The flags it sets are reported; one
that the restart clears and that is not set again is not (DESIGN CHOICE, unsafe: log entry 26). -/
def State.restart (s : State) (k : RestartKind) : State := (s.restarted k).recomputeAll .definition

/-- R179: the end of a store. -/
def State.storeEnd (s : State) (out : ReadBack) : State :=
  match s.store with
  | .idle => s
  | .storing copy =>
    match out with
    | .matched =>
      { s with image := copy, imageCheck := true, badMark := false, imageState := .good, store := .idle }.report .storeDone
        [.code (some 0)]
    | _ => { s with badMark := true, imageCheck := false, imageState := .bad, store := .idle }.report .storeDone [.code (some 1)]

/-- R179: a loss of supply; in the middle of a store the image is left with a check that does not match. -/
def State.supplyLost (s : State) : State :=
  match s.store with
  | .idle => s
  | .storing _ => { s with imageCheck := false, store := .idle }

end Sys2Proof.Machine
end

