-- ==== Sys2Proof/Machine/Queries.lean ====
section
/-! DEFINITION. The bodies of the queries and of STATUS (R19, R44, R85, R109, R136, R151, R171, R178), item by item in the order of
the owning rule (R176). -/

namespace Sys2Proof.Machine

/-- R44: SLOT-QUERY. The due time stands twice, once as a field of R20 and once after the indicator (DESIGN CHOICE, unsafe: log entry 38). The rack
address and channel, the size, the low mark, the safety, U16, the models and the quantities take one byte each (DESIGN CHOICE, unsafe: log
entry 44). -/
def State.slotBody (s : State) (id : Nat) : Body :=
  match tget s.slots id with
  | none => [.half (some id), .yesNo (some false)]
  | some sl =>
    let d := sl.dfn
    [.half (some id), .yesNo (some true), .code (some d.state.code), .code (some d.kind.code), .half (some d.partKey),
     .small (some d.station), .small (some d.loop), .small (some d.stop), .small (d.rack.map (·.address)),
     .small (d.rack.map (·.channel)), .half (some d.q), .small (some d.p), .small (some d.size), .small (some d.k),
     .small (some d.lowMark), .small (some d.safety), .small (some d.u16)] ++
    listItems d.usage (fun u => [.small (some u.1), .small (some u.2)]) ++
    [.yesNo (some sl.counted), .half (some sl.f), .small (some sl.h), .time sl.setPointer, .coverage (some sl.cr),
     .coverage (some sl.cp), .coverage (some sl.trigger), .time (s.dueShown sl.due), sl.flags.item,
     .small (some (s.containersIn id .opn)), .small (some (s.containersIn id .planned)), .small (some (s.containersIn id .loaded)),
     .small (some sl.occupied), .room (s.room id sl), .code (some sl.aspect), .yesNo (some (s.inbound id sl)),
     .time (s.dueShown sl.due)]

/-- R104: a drop; its index, wagon, unit and size take one byte each (DESIGN CHOICE, unsafe: log entry 44). -/
def Drop.items (d : Drop) : Body :=
  [.small (some d.index), .half (some d.call), .half (some d.slot), .small (some d.stop), .small (some d.wagon), .small (some d.unit),
   .small (some d.size), .half (some d.pieces), .code (some d.status.code)]

/-- R104: a load record, or none. -/
def loadItems : Option Load → Body
  | some l => [.half (some l.id), .small (some l.loop), .time (some l.closedAt)] ++ listItems l.drops Drop.items
  | none => [.half none, .small none, .time none, .count 0]

/-- R85: the drops of the call c with the given id, in the load whose id it holds. A drop of another load that carries the id, of a call
complete before the id was given again (R63), is none of its drops. -/
def State.dropsOfCall (s : State) (id : Nat) (c : Call) : List Drop :=
  (s.allLoads.filter fun l => c.load == some l.id).flatMap fun l => l.drops.filter fun d => d.call == id

/-- R85: CALL-QUERY, call form. -/
def State.callBody (s : State) (id : Nat) : Body :=
  match tget s.calls id with
  | none => []
  | some c =>
    [.half (some id), .half (some c.slot), .code (some c.cls.code), .small (some c.containers), .half (some c.pieces),
     .time (c.set.map (·.1)), .time (c.set.map (·.2)), .yesNo (c.set.map fun _ => c.broken), .time (some c.raisedAt),
     .coverage (some c.due), .code (some c.state.code), .half c.load, .yesNo (some c.returned)] ++
    listItems (if c.state = .planned || c.state = .loaded then s.dropsOfCall id c else [])
      (fun d => [.small (some d.index), .small (some d.wagon), .small (some d.unit), .code (some d.status.code)])

/-- R85: CALL-QUERY, slot form: the calls of the slot in call id order. -/
def State.callsBody (s : State) (slot : Nat) : Body :=
  .small ((tget s.slots slot).map (·.owed)) ::
    listItems (sortBy (fun a b : Nat × Call => decide (a.1 < b.1)) (s.calls.filter fun e => e.2.slot == slot)) fun e =>
      [.half (some e.1), .code (some e.2.cls.code), .small (some e.2.containers), .code (some e.2.state.code),
       .yesNo (some e.2.returned)]

/-- R109: the earliest time an INTERNAL window may next open; none without an active request, and 0 with no opening since restart
(DESIGN CHOICE, unsafe: log entry 33). -/
def LoopRec.nextOpening (r : LoopRec) : Option Nat :=
  if r.dfn.source = .internal && r.active.isSome then some r.earliest else none

/-- R109: LOOP-QUERY. The earliest opening time stands last (DESIGN CHOICE, unsafe: log entry 38). -/
def State.loopBody (s : State) (l : Nat) : Body :=
  match tget s.loops l with
  | none => [.small (some l), .yesNo (some false)]
  | some r =>
    let d := r.dfn
    [.small (some l), .yesNo (some true), .small (some d.stops)] ++
    listItems d.gates (fun g => listItems g fun z => [.small (some z)]) ++
    [.small (some d.wagons), .duration d.window, .duration d.pick, .duration d.period, .duration d.lead, .code (some d.source.code),
     .code (some d.dispatch.code), .code (some d.ret.code), .code (some r.window.code), .time r.expiry, .time r.lastOpen,
     .cycles r.active] ++
    listItems r.waiting (fun c => [.cycles (some c)]) ++
    [.code (some r.slot.code)] ++ loadItems r.slot.load? ++
    [.time (match r.slot with | .picking _ t => some t | _ => none), .time r.nextOpening]

/-- R153: a hot order, or none. -/
def hotItems : Option Hot → Body
  | some h =>
    [.small (some h.id), .half (some h.slot), .small (some h.containers), .half (some h.pieces), .time (some h.acceptedAt),
     .time h.takenAt, .code (some h.place.code)]
  | none => [.small none, .half none, .small none, .half none, .time none, .time none, .code none]

/-- R159: a note, or none. -/
def noteItems : Option Note → Body
  | some n => [.small (some n.number), .code (some n.code), .half n.slot, .time (some n.takenAt)]
  | none => [.small none, .code none, .half none, .time none]

def fleetItems (f : Fleet) : Body :=
  [.small (some f.chargers), .small (some f.startLevel), .small (some f.endLevel), .duration f.gap, .duration f.coupleLimit]

/-- R136: the train's place in the queue it stands in, counted from 0 (DESIGN CHOICE, unsafe: log entry 35). -/
def State.queuePlace (s : State) (t : Nat) : Option Nat :=
  (placeIn s.homeQ t).orElse fun _ => (placeIn s.departQ t).orElse fun _ => placeIn s.chargeQ t

/-- R136, R153, R171: TRAIN-QUERY. The load record stands once, in the place of R111's load field, the last hot order after
the hot shelf, and the terminal's items last (DESIGN CHOICE, unsafe: log entry 38). -/
def State.trainBody (s : State) (t : Nat) : Body :=
  match tget s.trains t with
  | none => [.small (some t), .yesNo (some false)]
  | some tr =>
    let term := tget s.trainLink.terminals (trainAddress t)
    [.small (some t), .yesNo (some true), .small tr.loop, .code (some tr.state.code)] ++ placeItems tr.place ++
    [.yesNo (some tr.leftHome)] ++ tr.location.items ++ [.small tr.leg, .small tr.battery] ++ loadItems tr.load ++
    [.time tr.coupledAt, .yesNo (some tr.lateRep), .yesNo (some tr.earlyRep), .small (s.queuePlace t)] ++
    hotItems tr.hotBox ++ listItems tr.shelf (fun h => hotItems (some h)) ++
    hotItems (tr.lastHot.map (·.order)) ++ [.time (tr.lastHot.map (·.leftAt)),
      .code (tr.lastHot.map fun h => match h.way with | .taken => 0 | .abandoned => 1)] ++
    noteItems tr.noteBox ++ fleetItems s.fleet ++
    [.code (term.map fun x => if x.alive then 0 else 1), .time (term.bind (·.lastGood))]

/-- R151: the earliest time the entry window allows the next grant. -/
def Zone.nextGrant (z : Zone) (now : Nat) : Option Nat :=
  let r := z.recent now
  if z.dfn.count = 0 || r.length < z.dfn.count then none else (r[r.length - z.dfn.count]?).map (· + z.dfn.span * 10)

/-- R151: ZONE-QUERY. The intruder marks are a list of train ids in rising order, and each time of the history is followed by yes
or no for lying within the last W seconds (DESIGN CHOICE, unsafe: log entry 38). -/
def State.zoneBody (s : State) (z : Nat) : Body :=
  match tget s.zones z with
  | none => [.small (some z), .yesNo (some false)]
  | some r =>
    [.small (some r.dfn.capacity), .small (some r.dfn.count), .duration r.dfn.span] ++
    occupantItems r.occupants ++
    listItems r.queue (fun w => [.small (some w.train), .time (some w.joinedAt), .yesNo (some w.stalled)]) ++
    listItems r.history (fun g => [.time (some g), .yesNo (some (decide (s.plantTime < g + r.dfn.span * 10)))]) ++
    [.time (r.nextGrant s.plantTime)] ++ listItems r.intruders (fun t => [.small (some t)]) ++
    [.duration s.gateLimit, .duration s.grantLimit]

/-- R19: the serial at position S−1. -/
def State.lastSerial (s : State) : Option Nat := (s.lineArray[s.stations - 1]?.join).map (·.serial)

/-- R2: the builds on the line. -/
def State.buildsOnLine (s : State) : Nat := (s.lineArray.filter Option.isSome).length

def State.callsIn (s : State) (st : CallState) : Nat := (s.calls.filter fun e => e.2.state == st).length

/-- R171: the items of a link in STATUS. -/
def FieldLink.items (l : FieldLink) : Body :=
  [.duration l.interval, .half (some l.errors)] ++
    listItems l.terminals fun e =>
      [.small (some e.1), .code (some (if e.2.alive then 0 else 1)), .small (some e.2.misses), .time e.2.lastGood]

/-- R178: STATUS. Of a loop or train that is not defined each item is none (DESIGN CHOICE, unsafe: log entry 38). -/
def State.statusBody (s : State) : Body :=
  [.time (some s.plantTime), .code (some (if s.storing then 1 else 0)),
   .code (some (match s.imageState with | .good => 0 | .bad => 1)), s.causes.item, .small (some s.requestQueue.length),
   .small (some s.reportQueue.length), .yesNo (some s.gap), .half (some s.lineErrors)] ++
  [.code (some s.mode.code), .small (some s.stations), .duration s.takt, .small (some s.buildsOnLine),
   .half (some s.announced.length), .time s.highest, .time s.lastSerial] ++
  [.half (some s.calls.length), .half (some (s.callsIn .opn)), .half (some (s.callsIn .planned)), .half (some (s.callsIn .loaded)),
   .half (some (s.callsIn .void)), s.mask.item, .yesNo (some s.fullReported)] ++
  ((List.range 12).flatMap fun l =>
    [.code ((tget s.loops l).map fun r => r.window.code), .code ((tget s.loops l).map fun r => r.slot.code)]) ++
  ((List.range 8).flatMap fun t =>
    [.code ((tget s.trains t).map fun r => r.state.code), .small ((tget s.trains t).bind fun r => r.loop)]) ++
  [.small (some s.homeQ.length), .small (some s.departQ.length), .small (some s.chargeQ.length), .small (some s.chargingCount),
   .time s.lastGo] ++
  ((List.range 16).flatMap fun z =>
    [.small (some (((tget s.zones z).map fun r => r.occupants.length).getD 0)),
     .small (some (((tget s.zones z).map fun r => r.queue.length).getD 0))]) ++
  s.trainLink.items ++ s.rackLink.items

end Sys2Proof.Machine
end

