-- ==== Sys2Proof/Machine/ZoneCommands.lean ====
section
/-! DEFINITION. The Zone Controller's commands and its clocked events (R140, R141, R143, R144, R147 to R149, R151). -/

namespace Sys2Proof.Machine

/-! ## ZONE_DEF -/

/-- R138: the ranges of the definition items. -/
def zoneDefnInRange (d : ZoneDefn) : Bool := within 1 4 d.capacity && within 0 8 d.count && within 10 3600 d.span

/-- R140, condition 4. -/
def State.zoneDefinable (s : State) (zone : Nat) (d : Option ZoneDefn) : Bool :=
  match tget s.zones zone, d with
  | none, _ => true
  | some z, some d => decide (z.occupants.length ≤ d.capacity)
  | some z, none => z.occupants.isEmpty && z.queue.isEmpty

def zoneDefCheck (s : State) (a : ZoneDefArgs) : Option Reason :=
  firstFail
    [(decide (a.zone ≤ 15) && (match a.define with | some d => zoneDefnInRange d | none => true), .range), (!s.storing, .storing),
     (s.zoneDefinable a.zone a.define, .state)]

/-- R140: the zone record after a definition. -/
def redefinedZone (old : Option Zone) (d : ZoneDefn) : Zone :=
  match old with
  | none => freshZone d
  | some z => { z with dfn := d }

/-- R140: the wish records that name the zone cleared, but for trains in its wait queue. -/
def State.clearWishes (s : State) (zone : Nat) : State :=
  { s with trains := tmap (fun t x =>
      if x.wish.zone = some zone && !((tget s.zones zone).map fun z => z.waits t).getD false then { x with wish := ⟨none, none⟩ }
      else x) s.trains }

/-- R140. The counts that stand for defined = yes are none for defined = no (R176), and those after the evaluation (DESIGN CHOICE, unsafe:
log entry 20). -/
def zoneDefAct (s : State) (a : ZoneDefArgs) : State × Body :=
  match a.define with
  | some d =>
    let s1 := { s with zones := tset s.zones a.zone (redefinedZone (tget s.zones a.zone) d) }.evaluate a.zone
    (s1.clearWishes a.zone,
      [.small (some a.zone), .yesNo (some true), .small ((tget s1.zones a.zone).map (·.occupants.length)),
       .small ((tget s1.zones a.zone).map (·.queue.length))])
  | none => ({ s with zones := tdel s.zones a.zone }.clearWishes a.zone,
      [.small (some a.zone), .yesNo (some false), .small none, .small none])

/-- R140. -/
def execZoneDef (tag : Byte) (a : Operand ZoneDefArgs) (s : State) : Host.Outcome State Fault Refusal :=
  .next (serve 0x30#8 tag a zoneDefCheck zoneDefAct s)

/-! ## ZONE_LIMITS -/

def zoneLimitsCheck (s : State) (a : ZoneLimitsArgs) : Option Reason :=
  firstFail [(within 10 600 a.gateLimit && within 5 120 a.grantLimit, .range), (!s.storing, .storing)]

/-- R141: every stall due at a zone, in queue order. -/
def State.stallsAt (s : State) (zone : Nat) : State :=
  match tget s.zones zone with
  | none => s
  | some z => (z.queue.map (·.train)).foldl (fun s t => s.stallIfDue zone t) s

/-- R141, R147: every lapse due at a zone, of trains whose link is ALIVE, in the order of the occupants. -/
def State.lapsesAt (s : State) (zone : Nat) : State :=
  match tget s.zones zone with
  | none => s
  | some z => (z.occupants.map (·.train)).foldl (fun s t => if s.trainAlive t then s.lapseIfDue zone t else s) s

/-- R141: the stalls of every zone, then the lapses (DESIGN CHOICE, unsafe: log entry 20). -/
def zoneLimitsAct (s : State) (a : ZoneLimitsArgs) : State × Body :=
  let s1 := { s with gateLimit := a.gateLimit, grantLimit := a.grantLimit }
  let s2 := (tkeys s1.zones).foldl State.stallsAt s1
  ((tkeys s2.zones).foldl State.lapsesAt s2, [.duration a.gateLimit, .duration a.grantLimit])

/-- R141. -/
def execZoneLimits (tag : Byte) (a : Operand ZoneLimitsArgs) (s : State) : Host.Outcome State Fault Refusal :=
  .next (serve 0x30#8 tag a zoneLimitsCheck zoneLimitsAct s)

/-! ## ZONE_CLEAR -/

/-- The occupant entry of a train at a zone. -/
def State.occupant (s : State) (zone t : Nat) : Option Occupant :=
  (tget s.zones zone).bind fun z => z.occupants.find? fun o => o.train == t

def zoneClearCheck (s : State) (a : ZoneClearArgs) : Option Reason :=
  firstFail
    [(decide (a.zone ≤ 15) && decide (a.train ≤ 7), .range), (tdefined s.zones a.zone, .undefined),
     ((s.occupant a.zone a.train).isSome, .state)]

/-- R149: the status removed is 0 GRANTED, 1 INSIDE. -/
def zoneClearAct (s : State) (a : ZoneClearArgs) : State × Body :=
  let s1 := ((s.modZone a.zone fun z => z.dropOccupant a.train).evaluate a.zone).clearWishOf a.train a.zone
  (s1, [.small (some a.zone), .small (some a.train), .code ((s.occupant a.zone a.train).map fun o => if o.inside then 1 else 0),
    .small ((tget s1.zones a.zone).map (·.occupants.length))])

/-- R149. -/
def execZoneClear (tag : Byte) (a : Operand ZoneClearArgs) (s : State) : Host.Outcome State Fault Refusal :=
  .next (serve 0x31#8 tag a zoneClearCheck zoneClearAct s)

/-! ## ZONE_QUERY -/

def zoneQueryCheck (_ : State) (z : Nat) : Option Reason := firstFail [(decide (z ≤ 15), .range)]

/-- R151. -/
def execZoneQuery (tag : Byte) (zone : Operand Nat) (s : State) : Host.Outcome State Fault Refusal :=
  .next (serve 0x32#8 tag zone zoneQueryCheck (fun s z => (s, s.zoneBody z)) s)

/-! ## Grants and clocked events -/

/-- R143: an evaluation. -/
def execZoneGrant (zone : Nat) (s : State) : Host.Outcome State Fault Refusal := .next (s.evaluate zone)

/-- R144: while N is above 0 and the wait queue is not empty, a zone is evaluated as a grant ages out. -/
def State.ageOutDue (s : State) (zone : Nat) : Bool :=
  match tget s.zones zone with
  | some z => decide (0 < z.dfn.count) && !z.queue.isEmpty
  | none => false

/-- R144. -/
def execGrantAgeOut (zone : Nat) (s : State) : Host.Outcome State Fault Refusal :=
  .next (if s.ageOutDue zone then s.evaluate zone else s)

/-- R147. -/
def execGrantLapse (zone train : Nat) (s : State) : Host.Outcome State Fault Refusal :=
  .next (if s.trainAlive train then s.lapseIfDue zone train else s)

/-- R148. -/
def execGateStall (zone train : Nat) (s : State) : Host.Outcome State Fault Refusal := .next (s.stallIfDue zone train)

end Sys2Proof.Machine
end

