-- ==== Sys2Proof/Machine/FieldCommands.lean ====
section
/-! DEFINITION. The Field Link's command LINK_SET and the events of the two field links (R162 to R170). -/

namespace Sys2Proof.Machine

/-! ## LINK_SET -/

def linkSetCheck (s : State) (a : LinkSetArgs) : Option Reason :=
  firstFail [(within 100 2000 a.train && within 100 2000 a.rack, .range), (!s.storing, .storing)]

/-- R163. -/
def linkSetAct (s : State) (a : LinkSetArgs) : State × Body :=
  ({ s with
      trainLink := { s.trainLink with interval := a.train }
      rackLink := { s.rackLink with interval := a.rack } }, [.duration a.train, .duration a.rack])

/-- R163. -/
def execLinkSet (tag : Byte) (a : Operand LinkSetArgs) (s : State) : Host.Outcome State Fault Refusal :=
  .next (serve 0x3C#8 tag a linkSetCheck linkSetAct s)

/-! ## Exchanges -/

/-- R163. -/
def execPollExchange (link : Link) (s : State) : Host.Outcome State Fault Refusal := .next (s.poll link)

/-- R164: no start mark within 50 ms. -/
def execReplyTimeout (link : Link) (s : State) : Host.Outcome State Fault Refusal := .next (s.miss link false)

/-- R164: a reply cut off by a gap. -/
def execReplyGap (link : Link) (s : State) : Host.Outcome State Fault Refusal := .next (s.miss link true)

/-- R164: a frame that is no good reply. -/
def execFieldReplyBad (link : Link) (s : State) : Host.Outcome State Fault Refusal := .next (s.miss link true)

/-- R164: bytes with no exchange in progress; with one in progress they are its reply and this event does not occur. -/
def execStrayFieldFrame (link : Link) (bytes : List Byte) (s : State) : Host.Outcome State Fault Refusal :=
  .next (if (s.link link).exchange.isNone then s.strayBytes link bytes else s)

/-- R164, R168. -/
def execTrainReply (bytes : List Byte) (s : State) : Host.Outcome State Fault Refusal := .next (s.trainReply bytes)

/-- R164, R170. -/
def execRackReply (bytes : List Byte) (s : State) : Host.Outcome State Fault Refusal := .next (s.rackReply bytes)

end Sys2Proof.Machine
end

