-- ==== Sys2Proof/Machine/PartCommands.lean ====
section
/-! DEFINITION. The Line Link, the Configuration Store and the part's power: frames, unknown kinds, reports sent, STORE, RESTART,
CAUSE_READ, STATUS, power-up and power loss (R173 to R182). -/

namespace Sys2Proof.Machine

/-! ## Frames from the line host -/

/-- R173: the receive error count of the Line Link raised. -/
def State.lineError (s : State) : State := { s with lineErrors := raiseCount s.lineErrors }

/-- R174: a request joins the queue, or, with 8 held, is refused FULL at once. -/
def State.takeRequest (s : State) (r : Request) : State :=
  if s.requestQueue.length < Config.maxRequests then { s with requestQueue := s.requestQueue ++ [r] }
  else s.reply r.kind r.tag (.refuse .full)

/-- R173: a frame judged. -/
def State.lineFrame (s : State) (bs : List Byte) : State :=
  match readFrame bs with
  | .none => s
  | .overLength => s.lineError
  | .frame good address kind tag body => if good && address == 0 then s.takeRequest ⟨kind, tag, body⟩ else s.lineError

/-- R173; R181: a frame whose reception began before the last restart is discarded and not counted. -/
def execLineFrameReceived (bytes : List Byte) (straddles : Bool) (s : State) : Host.Outcome State Fault Refusal :=
  .next (if straddles then s else s.lineFrame bytes)

/-- R173, R181. -/
def execLineFrameGap (straddles : Bool) (s : State) : Host.Outcome State Fault Refusal :=
  .next (if straddles then s else s.lineError)

/-- R173, R181: a length field above 1024. -/
def execOverLengthFrame (length : Nat) (straddles : Bool) (s : State) : Host.Outcome State Fault Refusal :=
  .next (if straddles || decide (length ≤ Config.maxBody) then s else s.lineError)

/-- R174: a request of a kind that is no request kind is refused; for a request kind the event does not occur. -/
def execUnknownKind (tag kind : Byte) (s : State) : Host.Outcome State Fault Refusal :=
  .next (if requestKinds.contains kind then s else (s.reply kind tag (.refuse .unknownKind)).leaveQueue kind tag)

/-! ## Reports and STATUS -/

/-- R177: the oldest report begins sending, with the gap flag, which then clears. -/
def execReportSend (s : State) : Host.Outcome State Fault Refusal :=
  .next (match s.reportQueue with
    | [] => s
    | r :: rest => { s with reportQueue := rest, gap := false, sent := s.sent ++ [.report s.gap r] })

/-- A check that refuses nothing past FORMAT. -/
def noCheck {α : Type} (_ : State) (_ : α) : Option Reason := none

/-- R178. -/
def execStatus (tag : Byte) (a : Operand Unit) (s : State) : Host.Outcome State Fault Refusal :=
  .next (serve 0x3B#8 tag a noCheck (fun s _ => (s, s.statusBody)) s)

/-! ## The store -/

def storeCheck (s : State) (_ : Unit) : Option Reason := firstFail [(!s.storing, .storing)]

/-- R179: the configuration copied and the write begun. -/
def storeAct (s : State) (_ : Unit) : State × Body := ({ s with store := .storing s.config }, [])

/-- R179. -/
def execStore (tag : Byte) (a : Operand Unit) (s : State) : Host.Outcome State Fault Refusal :=
  .next (serve 0x38#8 tag a storeCheck storeAct s)

/-- R179: the write ends and is read back; with no store in progress the event does not occur. -/
def execStoreDone (outcome : ReadBack) (s : State) : Host.Outcome State Fault Refusal := .next (s.storeEnd outcome)

/-! ## Restarts and power -/

def restartFullAct (s : State) (_ : Unit) : State × Body := (s.restart .full, [])

/-- R181. -/
def execRestartFull (tag : Byte) (a : Operand Unit) (s : State) : Host.Outcome State Fault Refusal :=
  .next (serve 0x39#8 tag a storeCheck restartFullAct s)

def restartShiftAct (s : State) (_ : Unit) : State × Body := (s.restart .shift, [])

/-- R181. -/
def execRestartShift (tag : Byte) (a : Operand Unit) (s : State) : Host.Outcome State Fault Refusal :=
  .next (serve 0x39#8 tag a storeCheck restartShiftAct s)

def causeReadCheck (_ : State) (clear : Option Nat) : Option Reason := firstFail [(decide (clear.getD 0 ≤ 1), .range)]

/-- R182. -/
def causeReadAct (s : State) (clear : Option Nat) : State × Body :=
  (if clear = some 1 then { s with causes := ⟨false, false, false, false⟩ } else s, [s.causes.item])

/-- R182. -/
def execCauseRead (tag : Byte) (clear : Operand (Option Nat)) (s : State) : Host.Outcome State Fault Refusal :=
  .next (serve 0x3A#8 tag clear causeReadCheck causeReadAct s)

/-- R181: power-up. -/
def execPowerUp (s : State) : Host.Outcome State Fault Refusal := .next (s.restart .power)

/-- R179: a loss of supply; what the part held is made afresh by the next power-up. -/
def execPowerLoss (s : State) : Host.Outcome State Fault Refusal := .next s.supplyLost

end Sys2Proof.Machine
end

