-- ==== Sys2Proof/Machine/SlotCommands.lean ====
section
/-! DEFINITION. The Slot Table's commands: SLOT_DEF, SLOT_UNDEFINE, SLOT_STATE, SLOT_COUNT, SLOT_QUERY (R22 to R26, R35, R44). -/

namespace Sys2Proof.Machine

/-! ## SLOT_DEF, SLOT_UNDEFINE -/

/-- R22, condition 7: nothing is in flight for the slot. -/
def State.slotIdle (s : State) (id : Nat) : Bool :=
  (s.calls.all fun e => e.2.slot != id) &&
    (match tget s.slots id with | some sl => sl.h == 0 | none => true) &&
    s.allLoads.all fun l => l.drops.all fun d => d.slot != id

/-- R20: the ranges of the definition fields. The channel is judged only with a rack address, without which the slot has none
(DEDUCED, unsafe: log entry 22). -/
def slotDefInRange (a : SlotDefArgs) : Bool :=
  within 0 383 a.slot && within 0 1 a.kind && within 1 65535 a.partKey && within 0 127 a.station && within 0 11 a.loop &&
    within 0 23 a.stop && (match a.rack with | some r => within 1 32 r && within 0 15 a.channel | none => true) &&
    within 1 999 a.q && within 1 8 a.p && (a.size == 1 || a.size == 2 || a.size == 4) && within 1 a.p a.k &&
    within 0 255 a.lowMark && within 0 255 a.safety && within 0 255 a.u16 &&
    a.usage.all fun u => decide (u.1 ≤ 31) && decide (u.2 ≤ 15)

def slotDefPlace (a : SlotDefArgs) : Option RackPlace := a.rack.map fun r => ⟨r, a.channel⟩

/-- R23: the definition a request gives; the state becomes ACTIVE. -/
def slotDefDefn (a : SlotDefArgs) : SlotDefn :=
  ⟨.active, if a.kind = 0 then .bulk else .seq, a.partKey, a.station, a.loop, a.stop, slotDefPlace a, a.q, a.p, a.size, a.k, a.lowMark,
    a.safety, a.u16, a.usage⟩

def noRepeat (l : List Nat) : Bool := (dedup l).length == l.length

/-- R22, condition 5. -/
def State.stopExists (s : State) (loop stop : Nat) : Bool :=
  match tget s.loops loop with
  | some r => decide (stop < r.dfn.stops)
  | none => false

/-- R22, condition 6. -/
def State.placeFree (s : State) (id : Nat) (p : Option RackPlace) : Bool :=
  p.isNone || s.slots.all fun e => e.1 == id || e.2.dfn.rack != p

def slotDefCheck (s : State) (a : SlotDefArgs) : Option Reason :=
  firstFail
    [(decide (a.usage.length ≤ 8), .format), (slotDefInRange a, .range), (noRepeat (a.usage.map (·.1)), .duplicate), (!s.storing, .storing),
     (s.stopExists a.loop a.stop, .undefined), (s.placeFree a.slot (slotDefPlace a), .duplicate), (s.slotIdle a.slot, .state)]

/-- R23, R43: the flags against which a definition reports: each set flag is reported, and each flag that was set and
is not now (DESIGN CHOICE, unsafe: log entry 26). -/
def SlotFlags.redefined (old new : SlotFlags) : SlotFlags :=
  ⟨old.low && !new.low, old.risk && !new.risk, old.starved && !new.starved, old.oversupplied && !new.oversupplied⟩

/-- R162: the rack terminal of a slot joins the rotation. -/
def State.joinRack (s : State) (p : Option RackPlace) : State :=
  match p with
  | some r => { s with rackLink := s.rackLink.join (rackAddress r.address) }
  | none => s

/-- R23. -/
def slotDefAct (s : State) (a : SlotDefArgs) : State × Body :=
  let s1 := { s with slots := tset s.slots a.slot (freshSlot (slotDefDefn a)) }.joinRack (slotDefPlace a)
  let new := (s1.recomputed a.slot (freshSlot (slotDefDefn a))).flags
  (coverChain (a.p + 2) a.slot .definition .definition ((s.slotFlags a.slot).redefined new) s1,
    [.half (some a.slot), .yesNo (some true)])

/-- R22, R23. -/
def execSlotDef (tag : Byte) (a : Operand SlotDefArgs) (s : State) : Host.Outcome State Fault Refusal :=
  .next (serve 0x08#8 tag a slotDefCheck slotDefAct s)

def slotUndefineCheck (s : State) (id : Nat) : Option Reason :=
  firstFail [(decide (id ≤ 383), .range), (!s.storing, .storing), (s.slotIdle id, .state)]

/-- R24: flags that were set are reported as going clear, and the record goes. -/
def slotUndefineAct (s : State) (id : Nat) : State × Body :=
  let s1 := (s.modSlot id fun x => { x with flags := ⟨false, false, false, false⟩ }).reportFlags id .definition .definition
    (s.slotFlags id)
  ({ s1 with slots := tdel s1.slots id }, [.half (some id), .yesNo (some false)])

/-- R22, R24. -/
def execSlotUndefine (tag : Byte) (slot : Operand Nat) (s : State) : Host.Outcome State Fault Refusal :=
  .next (serve 0x08#8 tag slot slotUndefineCheck slotUndefineAct s)

/-! ## SLOT_STATE -/

def readSlotState : Nat → SlotState
  | 0 => .active
  | _ => .suspended

def slotStateCheck (s : State) (a : SlotStateArgs) : Option Reason :=
  firstFail
    [(decide (a.slot ≤ 383) && decide (a.value ≤ 1), .range), (!s.storing, .storing), (tdefined s.slots a.slot, .undefined)]

/-- R26: the slot's PLANNED calls become VOID, with the load dissolved where all its drops are VOID now (R106). The
slot suspended is recomputed first and then those of the load dissolved, in drop order (DESIGN CHOICE, unsafe: log entry 31). -/
def State.voidPlanned (s : State) (id loop : Nat) : State × List (Nat × LoopTask) :=
  let ids := tkeys (s.calls.filter fun e => e.2.slot == id && e.2.state == .planned)
  if ids.isEmpty then (s, [])
  else
    let d := (ids.foldl State.voidCall s).dissolveAt loop
    (d.1.callsChangedAt (id :: d.2.1), d.2.2)

/-- R25, R26: a change of state (order: DESIGN CHOICE, unsafe: log entry 13). -/
def State.changeSlotState (s : State) (id : Nat) (sl : Slot) (st : SlotState) : State :=
  let s1 := s.modSlot id fun x => { x with dfn := { x.dfn with state := st } }
  match st with
  | .active => s1.recompute id .definition
  | .suspended =>
    let v := s1.voidPlanned id sl.dfn.loop
    (v.1.recompute id .definition).settleLoops v.2

/-- R25. -/
def slotStateAct (s : State) (a : SlotStateArgs) : State × Body :=
  match tget s.slots a.slot with
  | none => (s, [])
  | some sl =>
    (if readSlotState a.value = sl.dfn.state then s else s.changeSlotState a.slot sl (readSlotState a.value),
      [.half (some a.slot), .code (some sl.dfn.state.code), .code (some (readSlotState a.value).code)])

/-- R25, R26. -/
def execSlotState (tag : Byte) (a : Operand SlotStateArgs) (s : State) : Host.Outcome State Fault Refusal :=
  .next (serve 0x09#8 tag a slotStateCheck slotStateAct s)

/-! ## SLOT_COUNT -/

def slotCountCheck (s : State) (a : SlotCountArgs) : Option Reason :=
  firstFail [(decide (a.slot ≤ 383) && decide (a.value ≤ 9999), .range), (tdefined s.slots a.slot, .undefined)]

/-- R35. -/
def slotCountAct (s : State) (a : SlotCountArgs) : State × Body :=
  let r := s.tally a.slot a.value
  (r.1, [.half (some a.slot), .half (some a.value),
    .half ((tget s.slots a.slot).map fun sl => min (sl.dfn.p * sl.dfn.q) a.value), .small (some r.2)])

/-- R35. -/
def execSlotCount (tag : Byte) (a : Operand SlotCountArgs) (s : State) : Host.Outcome State Fault Refusal :=
  .next (serve 0x0A#8 tag a slotCountCheck slotCountAct s)

/-! ## SLOT_QUERY -/

def slotQueryCheck (_ : State) (id : Nat) : Option Reason := firstFail [(decide (id ≤ 383), .range)]

/-- R44. -/
def execSlotQuery (tag : Byte) (slot : Operand Nat) (s : State) : Host.Outcome State Fault Refusal :=
  .next (serve 0x0B#8 tag slot slotQueryCheck (fun s id => (s, s.slotBody id)) s)

end Sys2Proof.Machine
end

