-- ==== Sys2Proof/Machine/LoopCommands.lean ====
section
/-! DEFINITION. The Loop Controller's commands and its clocked events (R89 to R100, R105, R109, R117). -/

namespace Sys2Proof.Machine

/-! ## LOOP_DEF, LOOP_UNDEFINE -/

/-- R87: the ranges of the definition fields. -/
def loopDefInRange (a : LoopDefArgs) : Bool :=
  within 0 11 a.loop && within 1 24 a.stops && within 1 4 a.wagons && within 0 3600 a.window && within 0 3600 a.pick &&
    within 0 7200 a.period && within 0 14400 a.lead && within 0 1 a.source && within 0 1 a.dispatch && within 0 1 a.ret &&
    a.gates.all fun g => g.all fun z => decide (z ≤ 15)

/-- R87: the definition a request gives. -/
def loopDefDefn (a : LoopDefArgs) : LoopDefn :=
  ⟨a.stops, a.gates, a.wagons, a.window, a.pick, a.period, a.lead, if a.source = 0 then .internal else .external,
    if a.dispatch = 0 then .auto else .held, if a.ret = 0 then .auto else .hold⟩

/-- R89, condition 5, row 3: a slot naming the loop has a call past OPEN. -/
def State.loopCallsPast (s : State) (l : Nat) : Bool :=
  s.calls.any fun e =>
    e.2.state != .opn && (match tget s.slots e.2.slot with | some sl => sl.dfn.loop == l | none => false)

/-- R89: the train states in which a train carries traffic of its loop. -/
def TrainState.inTraffic : TrainState → Bool
  | .coupling | .ready | .onRun | .atStop | .holding | .returning => true
  | _ => false

/-- R89, condition 5, rows 1 to 4: nothing of the loop's traffic is in flight. -/
def State.loopQuiet (s : State) (l : Nat) (r : LoopRec) : Bool :=
  r.window == .shut && r.slot == .empty && !s.loopCallsPast l &&
    s.trains.all fun e => e.2.loop != some l || !e.2.state.inTraffic

/-- R89, condition 5 for defined = yes. -/
def State.loopDefinable (s : State) (a : LoopDefArgs) : Bool :=
  match tget s.loops a.loop with
  | none => true
  | some r => s.loopQuiet a.loop r && s.slots.all fun e => e.2.dfn.loop != a.loop || decide (e.2.dfn.stop < a.stops)

def loopDefCheck (s : State) (a : LoopDefArgs) : Option Reason :=
  firstFail
    [(a.gates.length == a.stops + 1 && a.gates.all fun g => decide (g.length ≤ 4), .format), (loopDefInRange a, .range),
     (a.gates.all noRepeat, .duplicate), (!s.storing, .storing), (s.loopDefinable a, .state)]

/-- R90: the loop record after the definition; requests are cleared where the cycle source changes. -/
def redefinedLoop (old : Option LoopRec) (d : LoopDefn) : LoopRec :=
  match old with
  | none => freshLoop d
  | some r => if r.dfn.source = d.source then { r with dfn := d } else { r with dfn := d, active := none, waiting := [] }

/-- R90, R58: every defined slot naming the loop recomputed, in rising id order. -/
def State.recomputeLoop (s : State) (l : Nat) : State :=
  (tkeys (s.slots.filter fun e => e.2.dfn.loop == l)).foldl (fun s id => s.recompute id .coverage) s

/-- R90. "Cycle requests were cleared" is answered yes on every change of the cycle source, whether or not a request was held (DESIGN
CHOICE, unsafe: log entry 32). -/
def loopDefAct (s : State) (a : LoopDefArgs) : State × Body :=
  let old := tget s.loops a.loop
  let d := loopDefDefn a
  let s1 := { s with loops := tset s.loops a.loop (redefinedLoop old d) }
  let s2 := if old.map (·.dfn) = some d then s1 else s1.recomputeLoop a.loop
  (s2.settleLoops [(a.loop, .openTest)],
    [.small (some a.loop), .yesNo (some true),
     .yesNo (some (match old with | some r => r.dfn.source != d.source | none => false))])

/-- R89, R90. -/
def execLoopDef (tag : Byte) (a : Operand LoopDefArgs) (s : State) : Host.Outcome State Fault Refusal :=
  .next (serve 0x18#8 tag a loopDefCheck loopDefAct s)

/-- R89, condition 5 for defined = no; a loop already undefined passes. -/
def State.loopUndefinable (s : State) (l : Nat) : Bool :=
  match tget s.loops l with
  | none => true
  | some r => s.loopQuiet l r && (s.slots.all fun e => e.2.dfn.loop != l) && s.trains.all fun e => e.2.loop != some l

def loopUndefineCheck (s : State) (l : Nat) : Option Reason :=
  firstFail [(decide (l ≤ 11), .range), (!s.storing, .storing), (s.loopUndefinable l, .state)]

/-- R91. -/
def loopUndefineAct (s : State) (l : Nat) : State × Body :=
  ({ s with loops := tdel s.loops l }, [.small (some l), .yesNo (some false)])

/-- R89, R91. -/
def execLoopUndefine (tag : Byte) (loop : Operand Nat) (s : State) : Host.Outcome State Fault Refusal :=
  .next (serve 0x18#8 tag loop loopUndefineCheck loopUndefineAct s)

/-! ## CYCLE, CYCLE_STOP -/

def State.loopSource (s : State) (l : Nat) : Option Source := (tget s.loops l).map (·.dfn.source)

/-- R93: a count of 1 to 15, or CONTINUOUS. -/
def cycleInRange : CycleCount → Bool
  | .times n => within 1 15 n
  | .continuous => true

/-- R93: the loop holds an active request and 2 pending ones. -/
def LoopRec.cyclesFull (r : LoopRec) : Bool := r.active.isSome && decide (2 ≤ r.waiting.length)

def cycleCheck (s : State) (a : CycleArgs) : Option Reason :=
  firstFail
    [(decide (a.loop ≤ 11) && cycleInRange a.count, .range), (tdefined s.loops a.loop, .undefined),
     (s.loopSource a.loop == some .internal, .mode),
     ((match tget s.loops a.loop with | some r => !r.cyclesFull | none => false), .full)]

/-- R93: the count becomes the active request, with the opening test, or waits. The place is 0 for ACTIVE. -/
def cycleAct (s : State) (a : CycleArgs) : State × Body :=
  match tget s.loops a.loop with
  | none => (s, [])
  | some r =>
    if r.active.isNone then
      ((s.modLoop a.loop fun r => { r with active := some a.count }).settleLoops [(a.loop, .openTest)],
        [.small (some a.loop), .small (some 0), .small (some r.waiting.length)])
    else
      (s.modLoop a.loop fun r => { r with waiting := r.waiting ++ [a.count] },
        [.small (some a.loop), .small (some (r.waiting.length + 1)), .small (some (r.waiting.length + 1))])

/-- R93. -/
def execCycle (tag : Byte) (a : Operand CycleArgs) (s : State) : Host.Outcome State Fault Refusal :=
  .next (serve 0x19#8 tag a cycleCheck cycleAct s)

def cycleStopCheck (s : State) (l : Nat) : Option Reason :=
  firstFail [(decide (l ≤ 11), .range), (tdefined s.loops l, .undefined), (s.loopSource l == some .internal, .mode)]

/-- R95. -/
def cycleStopAct (s : State) (l : Nat) : State × Body :=
  (s.modLoop l fun r => { r with active := none, waiting := [] },
    [.small (some l), .code ((tget s.loops l).map (·.window.code))])

/-- R95. -/
def execCycleStop (tag : Byte) (loop : Operand Nat) (s : State) : Host.Outcome State Fault Refusal :=
  .next (serve 0x1A#8 tag loop cycleStopCheck cycleStopAct s)

/-! ## WINDOW_OPEN, WINDOW_CLOSE -/

def State.windowOf (s : State) (l : Nat) : Option WindowState := (tget s.loops l).map (·.window)

def windowOpenCheck (s : State) (l : Nat) : Option Reason :=
  firstFail
    [(decide (l ≤ 11), .range), (tdefined s.loops l, .undefined), (s.loopSource l == some .external && s.mode != .closed, .mode),
     (s.windowOf l == some .shut, .state)]

/-- R98. -/
def windowOpenAct (s : State) (l : Nat) : State × Body :=
  ((s.modLoop l fun r => { r with window := .opn, lastOpen := some s.plantTime }).reportWindow l .opened .request, [])

/-- R98. -/
def execWindowOpen (tag : Byte) (loop : Operand Nat) (s : State) : Host.Outcome State Fault Refusal :=
  .next (serve 0x1B#8 tag loop windowOpenCheck windowOpenAct s)

def windowCloseCheck (s : State) (l : Nat) : Option Reason :=
  firstFail
    [(decide (l ≤ 11), .range), (tdefined s.loops l, .undefined), (s.loopSource l == some .external, .mode),
     (s.windowOf l == some .opn, .state)]

/-- The load id a loop's slot holds. -/
def State.slotLoadId (s : State) (l : Nat) : Option Nat := ((tget s.loops l).bind (·.slot.load?)).map (·.id)

/-- R98, R99: the close asked for. The outcome is 0 for CLOSED, with the load id planned, and 1 for DEFERRED. -/
def windowCloseAct (s : State) (l : Nat) : State × Body :=
  if (s.slotLoadId l).isNone then
    let r := s.takeClose l .windowClose
    (r.1.settleLoops r.2, [.small (some l), .code (some 0), .half (r.1.slotLoadId l)])
  else (s.settleLoops [(l, .askClose .windowClose)], [.small (some l), .code (some 1), .half none])

/-- R98, R99. -/
def execWindowClose (tag : Byte) (loop : Operand Nat) (s : State) : Host.Outcome State Fault Refusal :=
  .next (serve 0x1C#8 tag loop windowCloseCheck windowCloseAct s)

/-! ## LOOP_QUERY -/

def loopQueryCheck (_ : State) (l : Nat) : Option Reason := firstFail [(decide (l ≤ 11), .range)]

/-- R109. -/
def execLoopQuery (tag : Byte) (loop : Operand Nat) (s : State) : Host.Outcome State Fault Refusal :=
  .next (serve 0x1D#8 tag loop loopQueryCheck (fun s l => (s, s.loopBody l)) s)

/-! ## Clocked events: each acts only where its condition holds -/

/-- R99: an OPEN window whose expiry is reached. -/
def State.windowDue (s : State) (l : Nat) : Bool :=
  match tget s.loops l with
  | some r => r.window == .opn && (match r.expiry with | some t => reached s.plantTime t | none => false)
  | none => false

/-- R99. -/
def execWindowExpiry (loop : Nat) (s : State) : Host.Outcome State Fault Refusal :=
  .next (if s.windowDue loop then s.settleLoops [(loop, .askClose .expiry)] else s)

/-- R96, R97: the opening test at the earliest opening time. -/
def execWindowOpenTime (loop : Nat) (s : State) : Host.Outcome State Fault Refusal :=
  .next (s.settleLoops [(loop, .openTest)])

/-- R100: a window in CLOSE_WAIT over an EMPTY load slot. -/
def State.deferredDue (s : State) (l : Nat) : Bool :=
  match tget s.loops l with
  | some r => r.window == .closeWait && r.slot == .empty
  | none => false

/-- R100: the deferred close, after a coupling or a dissolution. -/
def execDeferredClose (loop : Nat) (dissolved : Bool) (s : State) : Host.Outcome State Fault Refusal :=
  .next (if s.deferredDue loop then s.settleLoops [(loop, .takeClose (if dissolved then .dissolved else .coupling))] else s)

/-- R105: the load being picked whose pick expiry is reached. -/
def State.pickDue (s : State) (l : Nat) : Option Load :=
  match tget s.loops l with
  | some r =>
    match r.slot with
    | .picking ld t => if reached s.plantTime t then some ld else none
    | _ => none
  | none => none

/-- R105. -/
def execPickExpiry (loop : Nat) (s : State) : Host.Outcome State Fault Refusal :=
  .next (match s.pickDue loop with | some ld => s.stage loop ld | none => s)

/-- R77, R107, R117: a coupling begins where a STAGED load and a parked train of the loop meet outside CLOSED. -/
def execCouplingBegin (loop : Nat) (s : State) : Host.Outcome State Fault Refusal :=
  .next (s.settleLoops [(loop, .couple)])

end Sys2Proof.Machine
end

