-- ==== Sys2Proof/Machine/TrainCommands.lean ====
section
/-! DEFINITION. The Train Controller's commands and its clocked events (R112 to R121, R126, R128 to R136, R153 to R160). -/

namespace Sys2Proof.Machine

/-! ## TRAIN_DEF, FLEET_SETTINGS -/

def State.trainState (s : State) (t : Nat) : Option TrainState := (tget s.trains t).map (·.state)

/-- R114: the states in which commands are refused BUSY. -/
def TrainState.busy : TrainState → Bool
  | .coupling | .charging => true
  | _ => false

/-- R114: the train is not in a busy state. -/
def State.trainFree (s : State) (t : Nat) : Bool :=
  match s.trainState t with
  | some st => !st.busy
  | none => true

/-- R114: the train stands in one of the states a command lists. -/
def State.trainIn (s : State) (t : Nat) (sts : List TrainState) : Bool :=
  match s.trainState t with
  | some st => sts.contains st
  | none => false

/-- R112, R115: a named loop is defined. -/
def State.namedLoopDefined (s : State) : Option Nat → Bool
  | none => true
  | some l => tdefined s.loops l

/-- The hot box and the hot shelf hold nothing. -/
def Train.noHot (tr : Train) : Bool := tr.hotBox.isNone && tr.shelf.isEmpty

/-- R112: the loop a definition names. -/
def trainDefLoop (a : TrainDefArgs) : Option Nat := a.define.join

def trainDefCheck (s : State) (a : TrainDefArgs) : Option Reason :=
  firstFail
    [(decide (a.train ≤ 7) && decide ((trainDefLoop a).getD 0 ≤ 11), .range), (s.namedLoopDefined (trainDefLoop a), .undefined),
     (!s.storing, .storing), (s.trainFree a.train, .busy),
     ((match tget s.trains a.train with
        | some tr => s.trainIn a.train [.unplaced, .parked, .outOfService] && tr.noHot
        | none => true), .state)]

/-- R112: the record after a definition. -/
def redefinedTrain (old : Option Train) (loop : Option Nat) : Train :=
  match old with
  | none => freshTrain loop
  | some tr =>
    { tr with loop := loop, state := .unplaced, place := none, location := .unknown, leg := none, battery := none, load := none }

/-- R162: a train terminal leaves the rotation. -/
def FieldLink.leave (l : FieldLink) (address : Nat) : FieldLink := { l with terminals := tdel l.terminals address }

/-- R112, R150, R162: the train leaves the home queue and the zones, and takes its definition, or is removed; RUN-END DEFINED. -/
def trainDefAct (s : State) (a : TrainDefArgs) : State × Body :=
  let s1 := { s with homeQ := s.homeQ.filter (· != a.train) }.leaveZones a.train
  match a.define with
  | some loop =>
    ({ s1 with
        trains := tset s1.trains a.train (redefinedTrain (tget s1.trains a.train) loop)
        trainLink := s1.trainLink.join (trainAddress a.train) }.reportRunEnd a.train (some .unplaced) 5 none none none none none none,
      [.small (some a.train), .yesNo (some true), .small loop])
  | none =>
    ({ s1 with
        trains := tdel s1.trains a.train
        trainLink := s1.trainLink.leave (trainAddress a.train) }.reportRunEnd a.train none 5 none none none none none none,
      [.small (some a.train), .yesNo (some false), .small none])

/-- R112. -/
def execTrainDef (tag : Byte) (a : Operand TrainDefArgs) (s : State) : Host.Outcome State Fault Refusal :=
  .next (serve 0x20#8 tag a trainDefCheck trainDefAct s)

def fleetCheck (s : State) (f : Fleet) : Option Reason :=
  firstFail
    [(within 1 4 f.chargers && within 10 90 f.startLevel && within 20 100 f.endLevel && within 0 600 f.gap &&
        within 10 600 f.coupleLimit && decide (f.startLevel < f.endLevel), .range),
     (!s.storing, .storing), (decide (s.chargingCount ≤ f.chargers), .state)]

/-- R132: the CHARGING trains whose held battery is at or above the end level. -/
def State.charged (s : State) : List Nat :=
  tkeys (s.trains.filter fun e =>
    e.2.state == .charging && (match e.2.battery with | some b => decide (s.fleet.endLevel ≤ b) | none => false))

/-- R113: the settings, and what each new value does at once, in the order of R113 (the rest of the order: DESIGN CHOICE, unsafe: log entry 15). -/
def fleetAct (s : State) (f : Fleet) : State × Body :=
  let s1 := { s with fleet := f }.freeChargers.goTest
  let s2 := s1.charged.foldl State.endCharging s1
  ((tkeys s2.trains).foldl State.lateIfDue s2, fleetItems f)

/-- R113. -/
def execFleetSettings (tag : Byte) (a : Operand Fleet) (s : State) : Host.Outcome State Fault Refusal :=
  .next (serve 0x20#8 tag a fleetCheck fleetAct s)

/-! ## TRAIN_ASSIGN -/

def trainAssignCheck (s : State) (a : AssignArgs) : Option Reason :=
  firstFail
    [(decide (a.train ≤ 7) && decide (a.loop.getD 0 ≤ 11), .range),
     (tdefined s.trains a.train && s.namedLoopDefined a.loop, .undefined), (!s.storing, .storing), (s.trainFree a.train, .busy),
     (s.trainIn a.train [.parked, .unplaced, .outOfService], .state)]

/-- R115, R117. -/
def trainAssignAct (s : State) (a : AssignArgs) : State × Body :=
  let s1 := s.modTrain a.train fun x => { x with loop := a.loop }
  (match a.loop with | some l => s1.settleLoops [(l, .couple)] | none => s1,
    [.small (some a.train), .small ((tget s.trains a.train).bind (·.loop)), .small a.loop])

/-- R115. -/
def execTrainAssign (tag : Byte) (a : Operand AssignArgs) (s : State) : Host.Outcome State Fault Refusal :=
  .next (serve 0x21#8 tag a trainAssignCheck trainAssignAct s)

/-! ## RELEASE, CUT, RETURN -/

/-- R114: the checks of a command that carries one train id and is taken in the listed states, with a further condition. -/
def trainCheck (sts : List TrainState) (more : State → Nat → Bool) (s : State) (t : Nat) : Option Reason :=
  firstFail
    [(decide (t ≤ 7), .range), (tdefined s.trains t, .undefined), (s.trainFree t, .busy), (s.trainIn t sts && more s t, .state)]

/-- R120: the train's loop is HELD and the train is not yet in the departure queue. -/
def State.releasable (s : State) (t : Nat) : Bool :=
  (match tget s.trains t with | some tr => !s.autoDispatch tr | none => false) && !s.departQ.contains t

def releaseAct (s : State) (t : Nat) : State × Body := (s.joinDeparture t, [])

/-- R120. -/
def execRelease (tag : Byte) (train : Operand Nat) (s : State) : Host.Outcome State Fault Refusal :=
  .next (serve 0x22#8 tag train (trainCheck [.ready] State.releasable) releaseAct s)

/-- R128: the record after a CUT: every waiting drop CARRIED, the place kept. -/
def Train.cutRun (tr : Train) : Train :=
  { tr with state := .returning, load := tr.load.map fun ld => { ld with drops := ld.drops.map Drop.carry } }

/-- R128: STOP ENDED with cause CUT, for a train at a stop. -/
def State.reportCutStop (s : State) (t : Nat) (before after : Train) : State :=
  match before.state, before.place with
  | .atStop, some (.stop k) =>
    let here := after.drops.filter fun d => d.stop == k
    s.reportStop t .returning 1 after.loadId k none none (some (countStatus here .dropped)) (some (countStatus here .carried)) (some 2)
  | _, _ => s

/-- R128. The slots of the drops made CARRIED are recomputed in drop order, each once (DESIGN CHOICE, unsafe: log entry 31). -/
def cutAct (s : State) (t : Nat) : State × Body :=
  match tget s.trains t with
  | none => (s, [])
  | some tr =>
    let s1 := s.modTrain t Train.cutRun
    (((s1.reportCutStop t tr tr.cutRun).reportReturning t tr.cutRun 1).callsChangedAt
        ((tr.drops.filter fun d => d.status.waits).map (·.slot)),
      [.small (some t), .half tr.loadId, .small (some (countStatus tr.cutRun.drops .dropped)),
       .small (some (countStatus tr.cutRun.drops .carried))])

/-- R128. -/
def execCut (tag : Byte) (train : Operand Nat) (s : State) : Host.Outcome State Fault Refusal :=
  .next (serve 0x23#8 tag train (trainCheck [.onRun, .atStop] fun _ _ => true) cutAct s)

/-- R126. -/
def returnAct (s : State) (t : Nat) : State × Body :=
  match tget s.trains t with
  | none => (s, [])
  | some tr => ((s.modTrain t fun x => { x with state := .returning }).reportReturning t tr 2, [])

/-- R126: RETURN. -/
def execRetRun (tag : Byte) (train : Operand Nat) (s : State) : Host.Outcome State Fault Refusal :=
  .next (serve 0x24#8 tag train (trainCheck [.holding] fun _ _ => true) returnAct s)

/-! ## ABANDON -/

/-- R114, R119: ABANDON is not refused BUSY in COUPLING. -/
def abandonCheck (s : State) (t : Nat) : Option Reason :=
  firstFail
    [(decide (t ≤ 7), .range), (tdefined s.trains t, .undefined), (s.trainState t != some .charging, .busy),
     (s.trainIn t [.coupling, .ready], .state)]

/-- R107: the load taken back into an EMPTY load slot: STAGED, its drops PENDING, its calls PLANNED, its slots
recomputed in drop order (DESIGN CHOICE, unsafe: log entry 31). -/
def State.takeBack (s : State) (ld : Load) : State :=
  let ld1 := { ld with drops := ld.drops.map fun d => { d with status := .pending } }
  let s1 := (s.modLoop ld.loop fun r => { r with slot := .staged ld1 }).reportLoad ld.loop .returned ld1 none
  let s2 := (dedup (ld.drops.map (·.call))).foldl
    (fun s c => s.modCall c fun x => if x.state = .loaded then { x with state := .planned } else x) s1
  s2.callsChangedAt (ld.drops.map (·.slot))

/-- R107: the load slot of a loop is EMPTY. -/
def State.slotEmpty (s : State) (l : Nat) : Bool :=
  match tget s.loops l with
  | some r => r.slot == .empty
  | none => false

/-- R119, R107, R79: the load goes back to the load slot, or its containers to their calls; the train parks. The outcome is
0 RETURNED, 1 DISSOLVED. -/
def State.abandonLoad (s : State) (t : Nat) (ld : Load) : State × Nat :=
  let s1 := { s.modTrain t fun x => { x with state := .parked, load := none, coupledAt := none } with homeQ := s.homeQ ++ [t] }
  let out := if s1.slotEmpty ld.loop then 0 else 1
  let s2 := s1.reportCouple t .parked 3 ld (some out)
  ((if out = 0 then s2.takeBack ld else s2.returnDrops ld.drops).settleLoops [(ld.loop, .couple)], out)

/-- R119. -/
def abandonAct (s : State) (t : Nat) : State × Body :=
  match (tget s.trains t).bind (·.load) with
  | none => (s, [])
  | some ld =>
    let r := (s.leaveDeparture t).abandonLoad t ld
    (r.1, [.small (some t), .half (some ld.id), .code (some r.2)])

/-- R119. -/
def execAbandon (tag : Byte) (train : Operand Nat) (s : State) : Host.Outcome State Fault Refusal :=
  .next (serve 0x25#8 tag train abandonCheck abandonAct s)

/-! ## CHARGE, SERVICE off and on -/

def chargeAct (s : State) (t : Nat) : State × Body := (s.toChargers t, [])

/-- R131. -/
def execCharge (tag : Byte) (train : Operand Nat) (s : State) : Host.Outcome State Fault Refusal :=
  .next (serve 0x26#8 tag train (trainCheck [.parked] fun _ _ => true) chargeAct s)

/-- R133, R158: off. -/
def serviceOffAct (s : State) (t : Nat) : State × Body :=
  let s1 := { s with homeQ := s.homeQ.filter (· != t), chargeQ := s.chargeQ.filter (· != t) }.abandonHot t 2
  (s1.modTrain t fun x => { x with state := .outOfService }, [.small (some t), .code (some TrainState.outOfService.code)])

/-- R133. -/
def execServiceOff (tag : Byte) (train : Operand Nat) (s : State) : Host.Outcome State Fault Refusal :=
  .next (serve 0x27#8 tag train (trainCheck [.parked, .chargeWait] fun _ _ => true) serviceOffAct s)

/-- R133: on: PARKED at home, UNPLACED elsewhere. -/
def State.backInService (s : State) (t : Nat) : State :=
  match tget s.trains t with
  | none => s
  | some tr => if tr.location = .home then s.park t else s.modTrain t fun x => { x with state := .unplaced }

/-- R133. -/
def serviceOnAct (s : State) (t : Nat) : State × Body :=
  (s.backInService t, [.small (some t), .code (((s.backInService t).trainState t).map TrainState.code)])

/-- R133. -/
def execServiceOn (tag : Byte) (train : Operand Nat) (s : State) : Host.Outcome State Fault Refusal :=
  .next (serve 0x27#8 tag train (trainCheck [.outOfService] fun _ _ => true) serviceOnAct s)

/-! ## DISMISS -/

/-- R129 steps 5 and 6: the record of a train whose run is given up. -/
def Train.dismissed (tr : Train) : Train :=
  { tr with state := .unplaced, load := none, place := none, leg := none, coupledAt := none }

/-- R129: steps 1 to 4. -/
def State.dismissSteps (s : State) (t : Nat) (back : List Drop) : State :=
  (((s.leaveDeparture t).returnDrops back).leaveZones t).abandonHot t 1

/-- R129. RUN-END DISMISSED gives as CARRIED the drops that were CARRIED before their containers went back (DESIGN CHOICE, unsafe: log
entry 38). -/
def dismissAct (s : State) (t : Nat) : State × Body :=
  match tget s.trains t with
  | none => (s, [])
  | some tr =>
    let back := tr.drops.filter fun d => d.status != .dropped
    let s1 := (s.dismissSteps t back).modTrain t Train.dismissed
    (s1.reportRunEnd t (some .unplaced) 1 tr.loadId (some (countStatus tr.drops .dropped))
        (some (countStatus tr.drops .carried)) (some back.length) none none,
      [.small (some t), .half tr.loadId, .small (some back.length)])

/-- R129. -/
def execDismiss (tag : Byte) (train : Operand Nat) (s : State) : Host.Outcome State Fault Refusal :=
  .next (serve 0x28#8 tag train (trainCheck [.ready, .onRun, .atStop, .holding, .returning] fun _ _ => true) dismissAct s)

/-! ## HOTCALL -/

def hotcallCheck (s : State) (a : HotArgs) : Option Reason :=
  firstFail
    [(decide (a.train ≤ 7) && decide (a.slot ≤ 383) && within 1 2 a.count, .range),
     (tdefined s.trains a.train && tdefined s.slots a.slot, .undefined), (s.trainFree a.train, .busy),
     (!s.trainIn a.train [.unplaced, .outOfService] &&
        (match tget s.slots a.slot with | some sl => sl.dfn.kind == .bulk | none => false), .state),
     ((match tget s.trains a.train with | some tr => tr.hotBox.isNone | none => false), .boxFull),
     ((match tget s.trains a.train with | some tr => decide (tr.shelf.length < 2) | none => false), .shelfFull),
     (decide ((a.count : Int) ≤ s.roomOf a.slot), .noRoom)]

/-- R153: the hot ids held. -/
def State.hotIds (s : State) : List Nat :=
  s.trains.flatMap fun e => (match e.2.hotBox with | some h => [h.id] | none => []) ++ e.2.shelf.map (·.id)

/-- R153: the hot id a new order takes. -/
def State.newHotId (s : State) : Nat := freeId 255 s.hotIds (s.hotIds.length + 1) s.nextHot

/-- R155. -/
def hotcallAct (s : State) (a : HotArgs) : State × Body :=
  match tget s.slots a.slot with
  | none => (s, [])
  | some sl =>
    let h : Hot := ⟨s.newHotId, a.slot, a.count, sl.dfn.q, s.plantTime, none, .box⟩
    let s1 := { s.modTrain a.train fun x => { x with hotBox := some h } with nextHot := stepId 255 h.id }
    (s1.hotAccepted a.slot a.count, [.small (some a.train), .small (some h.id), .half (some a.slot), .small (some a.count)])

/-- R154, R155. -/
def execHotcall (tag : Byte) (a : Operand HotArgs) (s : State) : Host.Outcome State Fault Refusal :=
  .next (serve 0x29#8 tag a hotcallCheck hotcallAct s)

/-! ## NOTE_READ, TRAIN_QUERY -/

def noteReadCheck (s : State) (t : Nat) : Option Reason :=
  firstFail [(decide (t ≤ 7), .range), (tdefined s.trains t, .undefined)]

/-- R160: the body says whether the box held a note, and carries that note, or else the last note, with the time of its read. -/
def noteReadAct (s : State) (t : Nat) : State × Body :=
  match tget s.trains t with
  | none => (s, [])
  | some tr =>
    match tr.noteBox with
    | some n =>
      (s.modTrain t fun x => { x with noteBox := none, lastNote := some ⟨n, s.plantTime⟩ },
        [.yesNo (some true)] ++ noteItems (some n) ++ [.time (some s.plantTime)])
    | none =>
      (s, [.yesNo (some false)] ++ noteItems (tr.lastNote.map (·.note)) ++ [.time (tr.lastNote.map (·.readAt))])

/-- R160. -/
def execNoteRead (tag : Byte) (train : Operand Nat) (s : State) : Host.Outcome State Fault Refusal :=
  .next (serve 0x2A#8 tag train noteReadCheck noteReadAct s)

def trainQueryCheck (_ : State) (t : Nat) : Option Reason := firstFail [(decide (t ≤ 7), .range)]

/-- R136. -/
def execTrainQuery (tag : Byte) (train : Operand Nat) (s : State) : Host.Outcome State Fault Refusal :=
  .next (serve 0x2B#8 tag train trainQueryCheck (fun s t => (s, s.trainBody t)) s)

/-! ## Clocked events -/

/-- R118: the couple limit of a train reached. -/
def execCoupleLimit (train : Nat) (s : State) : Host.Outcome State Fault Refusal := .next (s.lateIfDue train)

/-- R121: the GO test, at the last GO time plus the gap. -/
def execDepartureGo (s : State) : Host.Outcome State Fault Refusal := .next s.goTest

/-- R132: a charger that is free, given to the head of the charge queue. -/
def execChargerGranted (s : State) : Host.Outcome State Fault Refusal := .next s.freeChargers

end Sys2Proof.Machine
end

