-- ==== Sys2Proof/Machine/Clock.lean ====
section
/-! DEFINITION. Time (0.6.1, log entry 3): one millisecond, and the clocked events that are then due. -/

namespace Sys2Proof.Machine

/-! ## What is due now -/

def State.windowEvents (s : State) : List Instr := ((tkeys s.loops).filter s.windowDue).map .windowExpiry

def State.openingEvents (s : State) : List Instr :=
  (s.loops.filter fun e => s.canOpen e.1 e.2).map fun e => .windowOpenTime e.1

def State.pickEvents (s : State) : List Instr := ((tkeys s.loops).filter fun l => (s.pickDue l).isSome).map .pickExpiry

def State.coupleEvents (s : State) : List Instr := (s.trains.filter fun e => s.coupleLate e.2).map fun e => .coupleLimit e.1

def State.goEvents (s : State) : List Instr := if !s.departQ.isEmpty && s.mayGo then [.departureGo] else []

def State.ageOutEvents (s : State) : List Instr :=
  (s.zones.filter fun e => s.ageOutDue e.1 && e.2.mayGrant s.plantTime).map fun e => .grantAgeOut e.1

/-- R147: by zone, and in a zone in the order of its occupants (DESIGN CHOICE, unsafe: log entry 16). -/
def State.lapseEvents (s : State) : List Instr :=
  s.zones.flatMap fun e =>
    (e.2.occupants.filter fun o => s.trainAlive o.train && (s.lapseDue e.1 o.train).isSome).map fun o => .grantLapse e.1 o.train

/-- R148: by zone, and in a zone in the order of its queue (DESIGN CHOICE, unsafe: log entry 16). -/
def State.stallEvents (s : State) : List Instr :=
  s.zones.flatMap fun e => (e.2.queue.filter fun w => s.stallDue e.1 w.train).map fun w => .gateStall e.1 w.train

def State.pollEvents (s : State) : List Instr :=
  (if s.trainLink.mayPoll then [.pollExchange .train] else []) ++ (if s.rackLink.mayPoll then [.pollExchange .rack] else [])

/-- The clocked events due now, in the order the model takes them (DESIGN CHOICE, unsafe: log entry 16). -/
def State.dueEvents (s : State) : List Instr :=
  s.windowEvents ++ s.openingEvents ++ s.pickEvents ++ s.coupleEvents ++ s.goEvents ++ s.ageOutEvents ++ s.lapseEvents ++
    s.stallEvents ++ s.pollEvents

/-! ## A millisecond -/

/-- R163: a link one millisecond later. -/
def FieldLink.tick (l : FieldLink) : FieldLink := { l with sincePoll := l.sincePoll.map (· + 1) }

/-- 0.6.1: plant time counts tenths of a second in 32 bits. -/
def State.clock (s : State) : State :=
  { s with
    msPart := if s.msPart + 1 < 100 then s.msPart + 1 else 0
    plantTime := if s.msPart + 1 < 100 then s.plantTime else (s.plantTime + 1) % Config.plantTimeModulus
    trainLink := s.trainLink.tick
    rackLink := s.rackLink.tick }

/-- One millisecond with nothing waiting: time passes, and the events then due wait as commands. -/
def State.tick (s : State) : State := { s.clock with pending := s.pending ++ s.clock.dueEvents }

end Sys2Proof.Machine
end

