-- ==== Sys2Proof/Machine/CallCommands.lean ====
section
/-! DEFINITION. The Call List's commands: EXPEDITE, CANCEL, CLASS_MASK, SEQ_FLUSH and the two forms of CALL-QUERY (R70, R71, R74, R80,
R81, R85). -/

namespace Sys2Proof.Machine

/-! ## EXPEDITE -/

def expediteCheck (s : State) (a : ExpediteArgs) : Option Reason :=
  firstFail
    [(decide (a.slot ≤ 383) && within 1 8 a.count, .range), (tdefined s.slots a.slot, .undefined),
     ((match tget s.slots a.slot with | some sl => sl.dfn.kind == .bulk && sl.counted | none => false), .state),
     (decide (1 ≤ s.roomOf a.slot), .noRoom),
     ((s.openCall a.slot .expedite).isSome || decide (s.calls.length < Config.maxCalls), .full)]

/-- R71: the EXPEDITE call enlarged or raised by min(count, R); in PAUSE a raise makes the opening test (R97), after the
recomputation it starts (DESIGN CHOICE, unsafe: log entry 41). -/
def expediteAct (s : State) (a : ExpediteArgs) : State × Body :=
  match tget s.slots a.slot with
  | none => (s, [])
  | some sl =>
    let n := min a.count (s.room a.slot sl).toNat
    let s1 := (s.askCall a.slot sl .expedite n).1
    let s2 := s1.callsChanged a.slot
    (if (s.openCall a.slot .expedite).isNone then s2.openForExpedite [sl.dfn.loop] else s2,
      [.half ((s1.openCall a.slot .expedite).map (·.1)), .small (some a.count), .small (some n),
       .small ((s1.openCall a.slot .expedite).map (·.2.containers))])

/-- R70, R71. -/
def execExpedite (tag : Byte) (a : Operand ExpediteArgs) (s : State) : Host.Outcome State Fault Refusal :=
  .next (serve 0x10#8 tag a expediteCheck expediteAct s)

/-! ## CANCEL -/

def State.callState (s : State) (id : Nat) : Option CallState := (tget s.calls id).map (·.state)

def cancelCheck (s : State) (id : Nat) : Option Reason :=
  firstFail
    [(id != 0, .range), (tdefined s.calls id, .undefined), (s.callState id != some .loaded, .tooLate), (s.callState id != some .void, .state)]

/-- R80, R106. The state after is none where the call is gone: cancelled while OPEN, or stripped with its load, which the VOID has
dissolved. Slots are recomputed before a deferred close (DESIGN CHOICE, unsafe: log entry 13), that of the call first and then those of
the load dissolved, in drop order (DESIGN CHOICE, unsafe: log entry 31). -/
def cancelAct (s : State) (id : Nat) : State × Body :=
  match tget s.calls id with
  | none => (s, [])
  | some c =>
    if c.state = .opn then
      ((s.finishCall id .cancelled).callsChanged c.slot, [.half (some id), .code (some CallState.opn.code), .code none])
    else
      let d := (s.voidCall id).dissolveAt (((tget s.slots c.slot).map (·.dfn.loop)).getD 0)
      ((d.1.callsChangedAt (c.slot :: d.2.1)).settleLoops d.2.2,
        [.half (some id), .code (some c.state.code), .code ((d.1.callState id).map CallState.code)])

/-- R80. -/
def execCancel (tag : Byte) (call : Operand Nat) (s : State) : Host.Outcome State Fault Refusal :=
  .next (serve 0x11#8 tag call cancelCheck cancelAct s)

/-! ## CLASS_MASK -/

def maskOf (a : MaskArgs) : ClassMask := ⟨a.expedite == 1, a.seq == 1, a.pull == 1, a.cover == 1⟩

def classMaskCheck (s : State) (a : MaskArgs) : Option Reason :=
  firstFail
    [(decide (a.expedite ≤ 1) && decide (a.seq ≤ 1) && decide (a.pull ≤ 1) && decide (a.cover ≤ 1), .range), (!s.storing, .storing)]

/-- R81, R97: in PAUSE the opening test of every INTERNAL loop follows. -/
def classMaskAct (s : State) (a : MaskArgs) : State × Body :=
  let s1 := { s with mask := maskOf a }
  (if s.mode = .pause then s1.settleLoops s1.openTasks else s1, [s.mask.item, (maskOf a).item])

/-- R81. -/
def execClassMask (tag : Byte) (a : Operand MaskArgs) (s : State) : Host.Outcome State Fault Refusal :=
  .next (serve 0x12#8 tag a classMaskCheck classMaskAct s)

/-! ## SEQ_FLUSH -/

def seqFlushCheck (s : State) (id : Nat) : Option Reason :=
  firstFail
    [(decide (id ≤ 383), .range), (tdefined s.slots id, .undefined),
     ((match tget s.slots id with
        | some sl => sl.dfn.kind == .seq && sl.counted && !(s.pendingBuilds sl).isEmpty
        | none => false), .state),
     (decide (1 ≤ s.roomOf id), .noRoom), (decide (s.calls.length < Config.maxCalls), .full)]

/-- R74. -/
def seqFlushAct (s : State) (id : Nat) : State × Body :=
  match tget s.slots id with
  | none => (s, [])
  | some sl =>
    let builds := (s.pendingBuilds sl).take sl.dfn.q
    let r := s.raiseSet id sl builds
    (r.1.callsChanged id,
      [.half r.2, .time (builds.head?.map (·.serial)), .time (builds.getLast?.map (·.serial)), .half (some builds.length)])

/-- R74. -/
def execSeqFlush (tag : Byte) (slot : Operand Nat) (s : State) : Host.Outcome State Fault Refusal :=
  .next (serve 0x13#8 tag slot seqFlushCheck seqFlushAct s)

/-! ## CALL-QUERY -/

def callQueryCallCheck (s : State) (id : Nat) : Option Reason :=
  firstFail [(id != 0, .range), (tdefined s.calls id, .undefined)]

/-- R85, call form. -/
def execCallQueryCall (tag : Byte) (call : Operand Nat) (s : State) : Host.Outcome State Fault Refusal :=
  .next (serve 0x14#8 tag call callQueryCallCheck (fun s id => (s, s.callBody id)) s)

def callQuerySlotCheck (s : State) (id : Nat) : Option Reason :=
  firstFail [(decide (id ≤ 383), .range), (tdefined s.slots id, .undefined)]

/-- R85, slot form. -/
def execCallQuerySlot (tag : Byte) (slot : Operand Nat) (s : State) : Host.Outcome State Fault Refusal :=
  .next (serve 0x14#8 tag slot callQuerySlotCheck (fun s id => (s, s.callsBody id)) s)

end Sys2Proof.Machine
end

