-- ==== Sys2Proof/Machine/LineCommands.lean ====
section
/-! DEFINITION. The Sequence Tracker's commands: LINE_SET, LINE_MODE, ANNOUNCE, WITHDRAW, ADVANCE (R5 to R18, R59, R75, R101). -/

namespace Sys2Proof.Machine

/-! ## LINE_SET -/

def lineSetCheck (s : State) (a : LineSetArgs) : Option Reason :=
  firstFail
    [(within 1 128 a.stations && within 300 6000 a.takt, .range), (!s.storing, .storing),
     (a.stations == s.stations || s.buildsOnLine == 0, .state)]

/-- R15. -/
def lineSetAct (s : State) (a : LineSetArgs) : State × Body :=
  let s1 := { s with
    stations := a.stations
    takt := a.takt
    lineArray := if a.stations = s.stations then s.lineArray else List.replicate a.stations none }
  (if a.stations = s.stations && a.takt = s.takt then s else s1.recomputeAll .coverage,
    [.small (some a.stations), .duration a.takt])

/-- R14, R15. -/
def execLineSet (tag : Byte) (a : Operand LineSetArgs) (s : State) : Host.Outcome State Fault Refusal :=
  .next (serve 0x01#8 tag a lineSetCheck lineSetAct s)

/-! ## LINE_MODE -/

def readMode : Nat → LineMode
  | 0 => .run
  | 1 => .pause
  | _ => .closed

def lineModeCheck (_ : State) (m : Nat) : Option Reason := firstFail [(decide (m ≤ 2), .range)]

/-- R18, R126: HOLDING trains sent RETURNING with cause MODE, in rising id order. -/
def State.recallHolding (s : State) : State :=
  (tkeys s.trains).foldl
    (fun s t =>
      match tget s.trains t with
      | some tr =>
        if tr.state = .holding then (s.modTrain t fun x => { x with state := .returning }).reportReturning t tr 3 else s
      | none => s) s

/-- R101: every OPEN or CLOSE_WAIT window shut, in rising id order. -/
def State.shutWindows (s : State) : State := (tkeys s.loops).foldl State.shutByMode s

/-- R17, R18, R59, R97, R101, R117, R121: a change of mode (order: DESIGN CHOICE, unsafe: log entry 12). -/
def State.changeMode (s : State) (m : LineMode) : State :=
  let s1 := { s with mode := m }
  match m with
  | .closed => s1.shutWindows.recallHolding
  | .run =>
    let s2 := s1.recomputeAll .coverage
    (s2.settleLoops (s2.openTasks ++ s2.coupleTasks)).goTest
  | .pause => (s1.settleLoops (s1.openTasks ++ s1.coupleTasks)).goTest

/-- R16. -/
def lineModeAct (s : State) (m : Nat) : State × Body :=
  (if readMode m = s.mode then s else s.changeMode (readMode m), [.code (some s.mode.code), .code (some (readMode m).code)])

/-- R16. -/
def execLineMode (tag : Byte) (m : Operand Nat) (s : State) : Host.Outcome State Fault Refusal :=
  .next (serve 0x02#8 tag m lineModeCheck lineModeAct s)

/-! ## ANNOUNCE -/

/-- R5, condition 3: serials rising above a bound. -/
def serialsRise : Option Nat → List Build → Bool
  | _, [] => true
  | none, b :: bs => serialsRise (some b.serial) bs
  | some h, b :: bs => decide (h < b.serial) && serialsRise (some b.serial) bs

def announceCheck (s : State) (bs : List Build) : Option Reason :=
  firstFail
    [(within 1 16 bs.length, .format), (bs.all fun b => decide (1 ≤ b.serial) && decide (b.model ≤ 31), .range),
     (serialsRise s.highest bs, .order), (decide (s.announced.length + bs.length ≤ Config.maxAnnounced), .full)]

/-- R6, R73: the set checks after an ANNOUNCE, at the SEQ slots that list one of the new models. -/
def State.announceSets (s : State) (bs : List Build) : State :=
  (tkeys s.slots).foldl
    (fun s id =>
      match tget s.slots id with
      | some sl =>
        if sl.dfn.kind = .seq && bs.any fun b => (tget sl.dfn.usage b.model).isSome then
          let r := s.checkSet id
          if r.2 then r.1.callsChanged id else r.1
        else s
      | none => s) s

/-- R4, R6: the highest serial announced after a telegram: its last serial. -/
def lastSerialOf : Option Nat → List Build → Option Nat
  | h, [] => h
  | _, b :: bs => lastSerialOf (some b.serial) bs

/-- R6. -/
def announceAct (s : State) (bs : List Build) : State × Body :=
  let s1 := { s with announced := s.announced ++ bs, highest := lastSerialOf s.highest bs }
  ((s1.recomputeAll .coverage).announceSets bs,
    [.small (some bs.length), .half (some s1.announced.length), .half (some (Config.maxAnnounced - s1.announced.length))])

/-- R5, R6. -/
def execAnnounce (tag : Byte) (bs : Operand (List Build)) (s : State) : Host.Outcome State Fault Refusal :=
  .next (serve 0x03#8 tag bs announceCheck announceAct s)

/-! ## WITHDRAW -/

def State.onLine (s : State) (serial : Nat) : Bool :=
  s.lineArray.any fun p => (match p with | some b => b.serial == serial | none => false)

def withdrawCheck (s : State) (serial : Nat) : Option Reason :=
  firstFail
    [(serial != 0, .range), (!s.onLine serial, .state), (s.announced.any fun b => b.serial == serial, .undefined)]

/-- R75: the calls among `ids` whose set holds the withdrawn build are broken and reported, in the order of the list, which is the order
in which ids were assigned (DESIGN CHOICE, unsafe: log entry 31). -/
def State.breakSets (s : State) (b : Build) (ids : List Nat) : State :=
  ids.foldl
    (fun s id =>
      match tget s.calls id with
      | none => s
      | some c =>
        match c.set with
        | none => s
        | some (first, last) =>
          let uses := match tget s.slots c.slot with | some sl => sl.dfn.use b.model == 1 | none => false
          if c.cls = .seq && uses && decide (first ≤ b.serial) && decide (b.serial ≤ last) then
            (s.modCall id fun x => { x with broken := true }).report .seqBreak
              (s.callHead (some id) c.slot c.cls ++
                [.time (some b.serial), .code (some c.state.code), .time (some first), .time (some last)])
          else s) s

/-- R8, R75: the sets called before the request are the ones that can break (DESIGN CHOICE, unsafe: log entry 14). -/
def withdrawAct (s : State) (serial : Nat) : State × Body :=
  let s1 := { s with announced := s.announced.filter fun b => b.serial != serial }
  let s2 := s1.recomputeAll .coverage
  (match s.announced.find? fun b => b.serial == serial with
    | some b => s2.breakSets b (tkeys s.calls)
    | none => s2,
    [.time (some serial), .half (some s1.announced.length)])

/-- R7, R8. -/
def execWithdraw (tag : Byte) (serial : Operand Nat) (s : State) : Host.Outcome State Fault Refusal :=
  .next (serve 0x04#8 tag serial withdrawCheck withdrawAct s)

/-! ## ADVANCE -/

def advanceCheck (s : State) (gap : Option Nat) : Option Reason :=
  firstFail [(decide (gap.getD 0 ≤ 1), .range), (s.mode == .run, .mode)]

/-- R10: the Line Array and the Announced Queue rewritten as one change. -/
def State.shiftLine (s : State) (gap : Bool) : State :=
  match gap, s.announced with
  | false, b :: rest => { s with lineArray := some b :: s.lineArray.dropLast, announced := rest }
  | _, _ => { s with lineArray := none :: s.lineArray.dropLast }

/-- R11: the consumption events of the build at position p, at the slots of station p. -/
def State.consumeAt (s : State) (p : Nat) (b : Option Build) : State :=
  match b with
  | none => s
  | some b => (tkeys (s.slots.filter fun e => e.2.dfn.station == p)).foldl (fun s id => s.consume b id) s

/-- R11: the consumption events of an advance. -/
def State.consumeAll (s : State) : State := (s.lineArray.zipIdx).foldl (fun s e => s.consumeAt e.2 e.1) s

/-- R10 to R12. -/
def advanceAct (s : State) (gap : Option Nat) : State × Body :=
  let s1 := s.shiftLine (gap == some 1)
  (s1.consumeAll.recomputeAll .coverage,
    [.time ((s.lineArray.getLast?.join).map (·.serial)), .time ((s1.lineArray.head?.join).map (·.serial)), .small (some s1.buildsOnLine),
     .half (some s1.announced.length)])

/-- R9 to R12. -/
def execAdvance (tag : Byte) (gap : Operand (Option Nat)) (s : State) : Host.Outcome State Fault Refusal :=
  .next (serve 0x05#8 tag gap advanceCheck advanceAct s)

end Sys2Proof.Machine
end

