-- ==== Sys2Proof/Machine/Dispatch.lean ====
section
/-! DEFINITION. One arm per command. -/

namespace Sys2Proof.Machine

/-- The effect of a command on everything but the queue of commands. -/
def exec (i : Instr) (s : State) : Host.Outcome State Fault Refusal :=
  match i with
  | .powerUp => Sys2Proof.Machine.execPowerUp s
  | .lineFrameReceived bytes straddles => Sys2Proof.Machine.execLineFrameReceived bytes straddles s
  | .lineFrameGap straddles => Sys2Proof.Machine.execLineFrameGap straddles s
  | .unknownKind tag kind => Sys2Proof.Machine.execUnknownKind tag kind s
  | .lineSet tag a => Sys2Proof.Machine.execLineSet tag a s
  | .lineMode tag m => Sys2Proof.Machine.execLineMode tag m s
  | .announce tag builds => Sys2Proof.Machine.execAnnounce tag builds s
  | .withdraw tag serial => Sys2Proof.Machine.execWithdraw tag serial s
  | .advance tag gap => Sys2Proof.Machine.execAdvance tag gap s
  | .slotDef tag a => Sys2Proof.Machine.execSlotDef tag a s
  | .slotUndefine tag slot => Sys2Proof.Machine.execSlotUndefine tag slot s
  | .slotState tag a => Sys2Proof.Machine.execSlotState tag a s
  | .slotCount tag a => Sys2Proof.Machine.execSlotCount tag a s
  | .slotQuery tag slot => Sys2Proof.Machine.execSlotQuery tag slot s
  | .expedite tag a => Sys2Proof.Machine.execExpedite tag a s
  | .cancel tag call => Sys2Proof.Machine.execCancel tag call s
  | .classMask tag a => Sys2Proof.Machine.execClassMask tag a s
  | .seqFlush tag slot => Sys2Proof.Machine.execSeqFlush tag slot s
  | .callQueryCall tag call => Sys2Proof.Machine.execCallQueryCall tag call s
  | .callQuerySlot tag slot => Sys2Proof.Machine.execCallQuerySlot tag slot s
  | .loopDef tag a => Sys2Proof.Machine.execLoopDef tag a s
  | .loopUndefine tag loop => Sys2Proof.Machine.execLoopUndefine tag loop s
  | .cycle tag a => Sys2Proof.Machine.execCycle tag a s
  | .cycleStop tag loop => Sys2Proof.Machine.execCycleStop tag loop s
  | .windowOpen tag loop => Sys2Proof.Machine.execWindowOpen tag loop s
  | .windowClose tag loop => Sys2Proof.Machine.execWindowClose tag loop s
  | .loopQuery tag loop => Sys2Proof.Machine.execLoopQuery tag loop s
  | .windowExpiry loop => Sys2Proof.Machine.execWindowExpiry loop s
  | .windowOpenTime loop => Sys2Proof.Machine.execWindowOpenTime loop s
  | .deferredClose loop dissolved => Sys2Proof.Machine.execDeferredClose loop dissolved s
  | .pickExpiry loop => Sys2Proof.Machine.execPickExpiry loop s
  | .couplingBegin loop => Sys2Proof.Machine.execCouplingBegin loop s
  | .trainDef tag a => Sys2Proof.Machine.execTrainDef tag a s
  | .fleetSettings tag a => Sys2Proof.Machine.execFleetSettings tag a s
  | .trainAssign tag a => Sys2Proof.Machine.execTrainAssign tag a s
  | .release tag train => Sys2Proof.Machine.execRelease tag train s
  | .cut tag train => Sys2Proof.Machine.execCut tag train s
  | .retRun tag train => Sys2Proof.Machine.execRetRun tag train s
  | .abandon tag train => Sys2Proof.Machine.execAbandon tag train s
  | .charge tag train => Sys2Proof.Machine.execCharge tag train s
  | .serviceOff tag train => Sys2Proof.Machine.execServiceOff tag train s
  | .serviceOn tag train => Sys2Proof.Machine.execServiceOn tag train s
  | .dismiss tag train => Sys2Proof.Machine.execDismiss tag train s
  | .hotcall tag a => Sys2Proof.Machine.execHotcall tag a s
  | .noteRead tag train => Sys2Proof.Machine.execNoteRead tag train s
  | .trainQuery tag train => Sys2Proof.Machine.execTrainQuery tag train s
  | .zoneDef tag a => Sys2Proof.Machine.execZoneDef tag a s
  | .zoneLimits tag a => Sys2Proof.Machine.execZoneLimits tag a s
  | .zoneClear tag a => Sys2Proof.Machine.execZoneClear tag a s
  | .zoneQuery tag zone => Sys2Proof.Machine.execZoneQuery tag zone s
  | .zoneGrant zone => Sys2Proof.Machine.execZoneGrant zone s
  | .grantAgeOut zone => Sys2Proof.Machine.execGrantAgeOut zone s
  | .grantLapse zone train => Sys2Proof.Machine.execGrantLapse zone train s
  | .gateStall zone train => Sys2Proof.Machine.execGateStall zone train s
  | .coupleLimit train => Sys2Proof.Machine.execCoupleLimit train s
  | .departureGo => Sys2Proof.Machine.execDepartureGo s
  | .chargerGranted => Sys2Proof.Machine.execChargerGranted s
  | .store tag a => Sys2Proof.Machine.execStore tag a s
  | .storeDone outcome => Sys2Proof.Machine.execStoreDone outcome s
  | .restartFull tag a => Sys2Proof.Machine.execRestartFull tag a s
  | .restartShift tag a => Sys2Proof.Machine.execRestartShift tag a s
  | .causeRead tag clear => Sys2Proof.Machine.execCauseRead tag clear s
  | .status tag a => Sys2Proof.Machine.execStatus tag a s
  | .linkSet tag a => Sys2Proof.Machine.execLinkSet tag a s
  | .reportSend => Sys2Proof.Machine.execReportSend s
  | .pollExchange link => Sys2Proof.Machine.execPollExchange link s
  | .replyTimeout link => Sys2Proof.Machine.execReplyTimeout link s
  | .replyGap link => Sys2Proof.Machine.execReplyGap link s
  | .fieldReplyBad link => Sys2Proof.Machine.execFieldReplyBad link s
  | .strayFieldFrame link bytes => Sys2Proof.Machine.execStrayFieldFrame link bytes s
  | .trainReply bytes => Sys2Proof.Machine.execTrainReply bytes s
  | .rackReply bytes => Sys2Proof.Machine.execRackReply bytes s
  | .overLengthFrame length straddles => Sys2Proof.Machine.execOverLengthFrame length straddles s
  | .powerLoss => Sys2Proof.Machine.execPowerLoss s

end Sys2Proof.Machine
end

