-- ==== Sys2Proof/Safety.lean ====
section
/-! DEFINITION. The words claims are stated in: what an answered request looks like, what of the state a group of effects cannot
reach (frames), and the invariants of a run. -/

namespace Sys2Proof.Machine

/-! ## Answers -/

/-- The state with an acceptance sent and the request in hand gone from the request queue (R174, R175). -/
def State.accepted (s : State) (kind tag : Byte) (body : Body) : State := (s.reply kind tag (.accept body)).leaveQueue kind tag

/-- The state with a refusal sent and the request in hand gone from the request queue. -/
def State.refusedWith (s : State) (kind tag : Byte) (reason : Reason) : State :=
  (s.reply kind tag (.refuse reason)).leaveQueue kind tag

/-! ## Frames: the state with the named parts blanked; two states with equal frames agree on everything else -/

/-- Everything but the Slot Table, the Call List's records and the report queue. -/
def State.beyondSlots (s : State) : State :=
  { s with slots := [], calls := [], nextCall := 0, fullReported := false, reportQueue := [], gap := false }

/-- Everything but those, the Loop Controller's records, the train records and the home queue. -/
def State.beyondLoops (s : State) : State := { s.beyondSlots with loops := [], nextLoad := 0, trains := [], homeQ := [] }

/-- Everything but those, the departure and charge queues and the last GO time. -/
def State.beyondTrains (s : State) : State := { s.beyondLoops with departQ := [], chargeQ := [], lastGo := none }

/-- Everything but those and the zones. -/
def State.beyondZones (s : State) : State := { s.beyondTrains with zones := [] }

/-- Everything but the report queue and its gap flag. -/
def State.beyondReports (s : State) : State := { s with reportQueue := [], gap := false }

/-- Of a slot, what a recomputation cannot touch: the definition, the stock and the baselines. -/
structure Stock where
  dfn : SlotDefn
  counted : Bool
  f : Nat
  h : Nat
  pullBase : Option Nat
  tallyBase : Option Nat
  starved : Bool
  deriving DecidableEq, Repr

def Slot.stock (sl : Slot) : Stock := ⟨sl.dfn, sl.counted, sl.f, sl.h, sl.pullBase, sl.tallyBase, sl.flags.starved⟩

/-- The stock of every slot. -/
def State.stocks (s : State) : Table Stock := tmap (fun _ sl => sl.stock) s.slots

/-- A report of a kind with the given items was queued and not dropped. -/
def State.hasReport (s : State) (kind : ReportKind) (items : Body) : Prop := ⟨kind, s.plantTime, items⟩ ∈ s.reportQueue

/-! ## What recomputations leave -/

/-- R50 to R54: every slot holds the results that a recomputation of it would write now. -/
def State.covered (s : State) : Prop := ∀ e ∈ s.slots, s.recomputed e.1 e.2 = e.2

/-- R56, R64: where the COVER condition holds at a slot, its OPEN COVER call can grow no further, or none can be raised, for want of room
or in a full list. -/
def State.coverMetAt (s : State) (id : Nat) (sl : Slot) : Prop :=
  sl.coverCondition = true →
    match s.openCall id .cover with
    | none => min (sl.dfn.k : Int) (s.room id sl) < 1 ∨ Config.maxCalls ≤ s.calls.length
    | some (_, c) => min (sl.dfn.k : Int) (c.containers + s.room id sl) ≤ c.containers

/-- R56: so at every slot. -/
def State.coverMet (s : State) : Prop := ∀ e ∈ s.slots, s.coverMetAt e.1 e.2

/-- R73: no counted SEQ slot is left with a set that could be called. -/
def State.setsCalled (s : State) : Prop :=
  ∀ e ∈ s.slots, e.2.dfn.kind = .seq → e.2.counted = true → 0 < e.2.dfn.q → e.2.dfn.q ≤ (s.pendingBuilds e.2).length →
    s.room e.1 e.2 < 1 ∨ Config.maxCalls ≤ s.calls.length

/-- R79: n containers, if any, of the LOADED call c with the given id are back in the list: OPEN in a call of its slot and class that says
it was returned, no younger and no later due than c; a SEQ call keeps its id, its set and its broken flag. -/
def State.returned (s : State) (id : Nat) (c : Call) (n : Nat) : Prop :=
  0 < n → ∃ k y, tget s.calls k = some y ∧ y.slot = c.slot ∧ y.cls = c.cls ∧ y.state = .opn ∧ y.returned = true ∧ n ≤ y.containers ∧
    y.raisedAt ≤ c.raisedAt ∧ y.due ≤ c.due ∧ (c.cls = .seq → k = id ∧ y.set = c.set ∧ y.broken = c.broken)

/-! ## Invariants -/

/-- The images a restart or a store can put in force. -/
def State.images (s : State) : List Image :=
  s.image :: match s.store with
    | .idle => []
    | .storing copy => [copy]

/-- The tables of the part, and of every image it could put in force, keep their one form: ids strictly rising. -/
def State.sorted (s : State) : Prop :=
  tsorted s.slots = true ∧ tsorted s.loops = true ∧ tsorted s.trains = true ∧ tsorted s.zones = true ∧
    ∀ i ∈ s.images, tsorted i.slots = true ∧ tsorted i.loops = true ∧ tsorted i.trains = true ∧ tsorted i.zones = true

/-- R2, R3, R64, R162, R173, R174, R177: the request and report queues, the Call List, the Announced Queue and the receive error counts
keep their bounds, and the Line Array its length. -/
def State.bounded (s : State) : Prop :=
  s.requestQueue.length ≤ 8 ∧ s.reportQueue.length ≤ 64 ∧ s.calls.length ≤ 512 ∧ s.announced.length ≤ 256 ∧ s.lineErrors ≤ 65535 ∧
    s.trainLink.errors ≤ 65535 ∧ s.rackLink.errors ≤ 65535 ∧ s.lineArray.length = s.stations ∧ 1 ≤ s.stations ∧
    ∀ i ∈ s.images, 1 ≤ i.stations

/-- R93, R153, R162, R165: the pending cycle requests of a loop, the hot box and shelf of a train, and the miss counts keep their bounds;
the terminal records stand in rising order of address. -/
def State.recordsBounded (s : State) : Prop :=
  (∀ e ∈ s.loops, e.2.waiting.length ≤ 2) ∧ (∀ e ∈ s.trains, e.2.hotBox.toList.length + e.2.shelf.length ≤ 2) ∧
    ∀ l : Link, tsorted (s.link l).terminals = true ∧ ∀ e ∈ (s.link l).terminals, e.2.misses < 3

/-- A queue of trains that all stand in one state, each of them once. -/
def State.queueOf (s : State) (q : List Nat) (st : TrainState) : Prop :=
  q.Nodup ∧ ∀ i ∈ q, (tget s.trains i).map (·.state) = some st

/-- R111, R116, R120, R131, R138: train ids are 0 to 7; the home queue holds PARKED trains, the departure queue READY ones, the charge queue
CHARGE_WAIT ones, and the wait queue of a zone defined ones, each train once. -/
def State.queuesKept (s : State) : Prop :=
  (∀ i ∈ tkeys s.trains, i ≤ 7) ∧ (∀ m ∈ s.images, ∀ i ∈ tkeys m.trains, i ≤ 7) ∧
    s.queueOf s.homeQ .parked ∧ s.queueOf s.departQ .ready ∧ s.queueOf s.chargeQ .chargeWait ∧
    ∀ e ∈ s.zones, (e.2.queue.map (·.train)).Nodup ∧ ∀ w ∈ e.2.queue, (tget s.trains w.train).isSome

/-- R28: F of every slot stays within its rack. -/
def State.stockBounded (s : State) : Prop := ∀ e ∈ s.slots, e.2.f ≤ e.2.dfn.p * e.2.dfn.q

/-- R138, R143: no zone holds more occupants than its capacity, nor more than 8 grants in its history. -/
def State.zonesBounded (s : State) : Prop :=
  ∀ e ∈ s.zones, e.2.occupants.length ≤ e.2.dfn.capacity ∧ e.2.history.length ≤ 8

/-- R179: while a store runs, its copy is the configuration held. -/
def State.copyCurrent (s : State) : Prop := ∀ copy, s.store = .storing copy → copy = s.config

/-- R131: no more trains charge than there are chargers. -/
def State.chargersBounded (s : State) : Prop := s.chargingCount ≤ s.fleet.chargers

/-- R63: no two call records share an id. -/
def State.callIdsUnique (s : State) : Prop := (tkeys s.calls).Nodup

/-- R61, R78: every call of the list has a container left. -/
def State.callsFilled (s : State) : Prop := ∀ e ∈ s.calls, 1 ≤ e.2.containers

/-- The drops of a train's load that are not DROPPED. -/
def Train.aboard (tr : Train) : List Drop := tr.drops.filter fun d => d.status != .dropped

/-- The drops of the load in a loop's load slot. -/
def LoopRec.slotDrops (r : LoopRec) : List Drop :=
  match r.slot.load? with
  | some ld => ld.drops
  | none => []

/-- A call held, in the state given. -/
def State.callIn (s : State) (id : Nat) (st : CallState) : Prop := ∃ c, tget s.calls id = some c ∧ c.state = st

/-- A call held, in the state given and with n containers or more. -/
def State.callHolds (s : State) (id : Nat) (st : CallState) (n : Nat) : Prop :=
  ∃ c, tget s.calls id = some c ∧ c.state = st ∧ n ≤ c.containers

/-- R62, R77, R78: the calls of the containers aboard are LOADED, with no fewer containers than drops not DROPPED, and are no other train's;
a train still COUPLING or READY has dropped nothing. -/
def State.aboardKept (s : State) : Prop :=
  (∀ e ∈ s.trains, ∀ d ∈ e.2.aboard, s.callHolds d.call .loaded (e.2.aboard.filter fun x => x.call == d.call).length) ∧
  (∀ e ∈ s.trains, ∀ f ∈ s.trains, e.1 ≠ f.1 → ∀ d ∈ e.2.aboard, ∀ x ∈ f.2.aboard, d.call ≠ x.call) ∧
  ∀ e ∈ s.trains, e.2.state = .coupling ∨ e.2.state = .ready → ∀ d ∈ e.2.drops, d.status ≠ .dropped

/-- R62, R104, R106: the call of a drop in a load slot is VOID with its drop, or PLANNED with no fewer containers than drops not VOID, and
is in no other load slot. -/
def State.slotLoadsKept (s : State) : Prop :=
  (∀ e ∈ s.loops, ∀ d ∈ e.2.slotDrops, (d.status = .void → s.callIn d.call .void) ∧
    (d.status ≠ .void →
      s.callHolds d.call .planned (e.2.slotDrops.filter fun x => x.call == d.call && x.status != .void).length)) ∧
  ∀ e ∈ s.loops, ∀ f ∈ s.loops, e.1 ≠ f.1 → ∀ d ∈ e.2.slotDrops, ∀ x ∈ f.2.slotDrops, d.call ≠ x.call

end Sys2Proof.Machine
end

