-- ==== Sys2Proof/WellFormed.lean ====
section
/-! DEFINITION. Which commands the part can be given: operands that fit the bytes they arrive in (R176, R183, R184), objects that
exist, and rows told apart as the spec tells them apart. Ranges that a refusal tests are not asked for here. -/

namespace Sys2Proof

def fits1 (n : Nat) : Bool := decide (n < 256)
def fits2 (n : Nat) : Bool := decide (n < 65536)
def fits4 (n : Nat) : Bool := decide (n < 4294967296)

/-- A decoded body fits; a body that matches no layout always does. `chooses`: the body holds a value that chooses the row. -/
def operandFits {α : Type} (chooses : Bool) (p : α → Bool) : Operand α → Bool
  | .ok a => p a
  | .malformed => true
  | .outOfRange => chooses

/-- FFh shows none, so a number given in its place is below it. -/
def optFits : Option Nat → Bool
  | some n => decide (n < 255)
  | none => true

def buildsFit (bs : List Build) : Bool := bs.all fun b => fits4 b.serial && fits1 b.model

def lineSetFits (a : LineSetArgs) : Bool := fits1 a.stations && fits2 a.takt

def slotDefFits (a : SlotDefArgs) : Bool :=
  fits2 a.slot && fits1 a.kind && fits2 a.partKey && fits1 a.station && fits1 a.loop && fits1 a.stop && optFits a.rack &&
    fits1 a.channel && fits2 a.q && fits1 a.p && fits1 a.size && fits1 a.k && fits1 a.lowMark && fits1 a.safety && fits1 a.u16 &&
    a.usage.all fun u => fits1 u.1 && fits1 u.2

def countFits : CycleCount → Bool
  | .times n => fits1 n
  | .continuous => true

def loopDefFits (a : LoopDefArgs) : Bool :=
  fits1 a.loop && fits1 a.stops && fits1 a.wagons && fits2 a.window && fits2 a.pick && fits2 a.period && fits2 a.lead &&
    fits1 a.source && fits1 a.dispatch && fits1 a.ret && a.gates.all fun g => g.all fits1

def trainDefFits (a : TrainDefArgs) : Bool := fits1 a.train && (match a.define with | some l => optFits l | none => true)

def fleetFits (f : Fleet) : Bool := fits1 f.chargers && fits1 f.startLevel && fits1 f.endLevel && fits2 f.gap && fits2 f.coupleLimit

def zoneDefFits (a : ZoneDefArgs) : Bool :=
  fits1 a.zone && (match a.define with | some d => fits1 d.capacity && fits1 d.count && fits2 d.span | none => true)

def optionalFits : Option Nat → Bool
  | some n => fits1 n
  | none => true

/-- The loops, trains and zones that exist (R87, R111, R138). -/
def isLoop (l : Nat) : Bool := decide (l < 12)
def isTrain (t : Nat) : Bool := decide (t < 8)
def isZone (z : Nat) : Bool := decide (z < 16)

/-- Whether a command is one the part can be given. -/
def Instr.wellFormed : Instr → Bool
  | .powerUp => true
  | .lineFrameReceived _ _ => true
  | .lineFrameGap _ => true
  | .unknownKind _ kind => !Machine.requestKinds.contains kind
  | .lineSet _ a => operandFits false lineSetFits a
  | .lineMode _ m => operandFits false fits1 m
  | .announce _ bs => operandFits false buildsFit bs
  | .withdraw _ serial => operandFits false fits4 serial
  | .advance _ gap => operandFits false optionalFits gap
  | .slotDef _ a => operandFits false slotDefFits a
  | .slotUndefine _ slot => operandFits false fits2 slot
  | .slotState _ a => operandFits false (fun a => fits2 a.slot && fits1 a.value) a
  | .slotCount _ a => operandFits false (fun a => fits2 a.slot && fits2 a.value) a
  | .slotQuery _ slot => operandFits false fits2 slot
  | .expedite _ a => operandFits false (fun a => fits2 a.slot && fits1 a.count) a
  | .cancel _ call => operandFits false fits2 call
  | .classMask _ a => operandFits false (fun a => fits1 a.expedite && fits1 a.seq && fits1 a.pull && fits1 a.cover) a
  | .seqFlush _ slot => operandFits false fits2 slot
  | .callQueryCall _ call => operandFits false fits2 call
  | .callQuerySlot _ slot => operandFits false fits2 slot
  | .loopDef _ a => operandFits false loopDefFits a
  | .loopUndefine _ loop => operandFits false fits1 loop
  | .cycle _ a => operandFits false (fun a => fits1 a.loop && countFits a.count) a
  | .cycleStop _ loop => operandFits false fits1 loop
  | .windowOpen _ loop => operandFits false fits1 loop
  | .windowClose _ loop => operandFits false fits1 loop
  | .loopQuery _ loop => operandFits false fits1 loop
  | .windowExpiry loop => isLoop loop
  | .windowOpenTime loop => isLoop loop
  | .deferredClose loop _ => isLoop loop
  | .pickExpiry loop => isLoop loop
  | .couplingBegin loop => isLoop loop
  | .trainDef _ a => operandFits false trainDefFits a
  | .fleetSettings _ f => operandFits false fleetFits f
  | .trainAssign _ a => operandFits false (fun a => fits1 a.train && optFits a.loop) a
  | .release _ train => operandFits false fits1 train
  | .cut _ train => operandFits false fits1 train
  | .retRun _ train => operandFits false fits1 train
  | .abandon _ train => operandFits false fits1 train
  | .charge _ train => operandFits false fits1 train
  | .serviceOff _ train => operandFits true fits1 train
  | .serviceOn _ train => operandFits false fits1 train
  | .dismiss _ train => operandFits false fits1 train
  | .hotcall _ a => operandFits false (fun a => fits1 a.train && fits2 a.slot && fits1 a.count) a
  | .noteRead _ train => operandFits false fits1 train
  | .trainQuery _ train => operandFits false fits1 train
  | .zoneDef _ a => operandFits false zoneDefFits a
  | .zoneLimits _ a => operandFits false (fun a => fits2 a.gateLimit && fits2 a.grantLimit) a
  | .zoneClear _ a => operandFits false (fun a => fits1 a.zone && fits1 a.train) a
  | .zoneQuery _ zone => operandFits false fits1 zone
  | .zoneGrant zone => isZone zone
  | .grantAgeOut zone => isZone zone
  | .grantLapse zone train => isZone zone && isTrain train
  | .gateStall zone train => isZone zone && isTrain train
  | .coupleLimit train => isTrain train
  | .departureGo => true
  | .chargerGranted => true
  | .store _ a => operandFits false (fun _ => true) a
  | .storeDone _ => true
  | .restartFull _ a => operandFits true (fun _ => true) a
  | .restartShift _ a => operandFits false (fun _ => true) a
  | .causeRead _ clear => operandFits false optionalFits clear
  | .status _ a => operandFits false (fun _ => true) a
  | .linkSet _ a => operandFits false (fun a => fits2 a.train && fits2 a.rack) a
  | .reportSend => true
  | .pollExchange _ => true
  | .replyTimeout _ => true
  | .replyGap _ => true
  | .fieldReplyBad _ => true
  | .strayFieldFrame _ _ => true
  | .trainReply _ => true
  | .rackReply _ => true
  | .overLengthFrame length _ => fits2 length && decide (Config.maxBody < length)
  | .powerLoss => true

/-- The kind and tag of the request that a row answers; none for an event of the clock, of a link or of the supply. -/
def Instr.answers : Instr → Option (Byte × Byte)
  | .powerUp => none
  | .lineFrameReceived _ _ => none
  | .lineFrameGap _ => none
  | .unknownKind tag kind => some (kind, tag)
  | .lineSet tag _ => some (0x01#8, tag)
  | .lineMode tag _ => some (0x02#8, tag)
  | .announce tag _ => some (0x03#8, tag)
  | .withdraw tag _ => some (0x04#8, tag)
  | .advance tag _ => some (0x05#8, tag)
  | .slotDef tag _ => some (0x08#8, tag)
  | .slotUndefine tag _ => some (0x08#8, tag)
  | .slotState tag _ => some (0x09#8, tag)
  | .slotCount tag _ => some (0x0A#8, tag)
  | .slotQuery tag _ => some (0x0B#8, tag)
  | .expedite tag _ => some (0x10#8, tag)
  | .cancel tag _ => some (0x11#8, tag)
  | .classMask tag _ => some (0x12#8, tag)
  | .seqFlush tag _ => some (0x13#8, tag)
  | .callQueryCall tag _ => some (0x14#8, tag)
  | .callQuerySlot tag _ => some (0x14#8, tag)
  | .loopDef tag _ => some (0x18#8, tag)
  | .loopUndefine tag _ => some (0x18#8, tag)
  | .cycle tag _ => some (0x19#8, tag)
  | .cycleStop tag _ => some (0x1A#8, tag)
  | .windowOpen tag _ => some (0x1B#8, tag)
  | .windowClose tag _ => some (0x1C#8, tag)
  | .loopQuery tag _ => some (0x1D#8, tag)
  | .windowExpiry _ => none
  | .windowOpenTime _ => none
  | .deferredClose _ _ => none
  | .pickExpiry _ => none
  | .couplingBegin _ => none
  | .trainDef tag _ => some (0x20#8, tag)
  | .fleetSettings tag _ => some (0x20#8, tag)
  | .trainAssign tag _ => some (0x21#8, tag)
  | .release tag _ => some (0x22#8, tag)
  | .cut tag _ => some (0x23#8, tag)
  | .retRun tag _ => some (0x24#8, tag)
  | .abandon tag _ => some (0x25#8, tag)
  | .charge tag _ => some (0x26#8, tag)
  | .serviceOff tag _ => some (0x27#8, tag)
  | .serviceOn tag _ => some (0x27#8, tag)
  | .dismiss tag _ => some (0x28#8, tag)
  | .hotcall tag _ => some (0x29#8, tag)
  | .noteRead tag _ => some (0x2A#8, tag)
  | .trainQuery tag _ => some (0x2B#8, tag)
  | .zoneDef tag _ => some (0x30#8, tag)
  | .zoneLimits tag _ => some (0x30#8, tag)
  | .zoneClear tag _ => some (0x31#8, tag)
  | .zoneQuery tag _ => some (0x32#8, tag)
  | .zoneGrant _ => none
  | .grantAgeOut _ => none
  | .grantLapse _ _ => none
  | .gateStall _ _ => none
  | .coupleLimit _ => none
  | .departureGo => none
  | .chargerGranted => none
  | .store tag _ => some (0x38#8, tag)
  | .storeDone _ => none
  | .restartFull tag _ => some (0x39#8, tag)
  | .restartShift tag _ => some (0x39#8, tag)
  | .causeRead tag _ => some (0x3A#8, tag)
  | .status tag _ => some (0x3B#8, tag)
  | .linkSet tag _ => some (0x3C#8, tag)
  | .reportSend => none
  | .pollExchange _ => none
  | .replyTimeout _ => none
  | .replyGap _ => none
  | .fieldReplyBad _ => none
  | .strayFieldFrame _ _ => none
  | .trainReply _ => none
  | .rackReply _ => none
  | .overLengthFrame _ _ => none
  | .powerLoss => none

end Sys2Proof
end

