-- ==== Sys2Proof/Certificates/Slice0/Obligations.lean ====
section
/-! DEFINITION. The statements for the provers. -/

section

open Sys2Proof Sys2Proof.Machine

/-! ## The part as a whole -/

/-- The command at the front of the queue runs on the state with the queue's rest. -/
def Obligations.StepRunsFrontCommand : Prop :=
  ∀ (s : State) (c : Instr) (rest : List Instr), s.pending = c :: rest → step s = exec c { s with pending := rest }

/-- Log entry 3: with no command waiting the request at the head of the request queue is taken in hand; with none there either,
one millisecond passes, and the clocked events then due wait as commands. -/
def Obligations.IdleStepTakesRequestOrPassesTime : Prop :=
  (∀ (s : State) (r : Request) (rs : List Request),
      s.pending = [] → s.requestQueue = r :: rs → step s = exec (requestCommand r) s) ∧
  ∀ s : State, s.pending = [] → s.requestQueue = [] →
    ∃ t, step s = .next t ∧
      t.plantTime = (if s.msPart + 1 < 100 then s.plantTime else (s.plantTime + 1) % 4294967296) ∧
      t.msPart = (if s.msPart + 1 < 100 then s.msPart + 1 else 0) ∧
      (∀ l : Link, (t.link l).sincePoll = (s.link l).sincePoll.map (· + 1)) ∧ t.pending = t.dueEvents ∧
      { t with plantTime := 0, msPart := 0, pending := [], trainLink := s.trainLink, rackLink := s.rackLink } =
        { s with plantTime := 0, msPart := 0, pending := [] }

/-- Every command ends in a next state, leaves the queue of commands alone, and takes back nothing that was sent. -/
def Obligations.EveryCommandCompletes : Prop :=
  ∀ (c : Instr) (s : State), ∃ t, exec c s = .next t ∧ t.pending = s.pending ∧ s.sent <+: t.sent

/-- Every request row sends one reply with the request's kind and tag; a refused request changes nothing else but that it leaves
the request queue. -/
def Obligations.RequestsAnsweredOnce : Prop :=
  ∀ (c : Instr) (s : State) (kind tag : Byte), c.wellFormed = true → c.answers = some (kind, tag) →
    ∃ t, exec c s = .next t ∧
      ((∃ r, t = s.refusedWith kind tag r) ∨
        ∃ body, t.sent = s.sent ++ [.reply ⟨kind, tag, .accept body⟩] ∧
          (t.requestQueue = (s.leaveQueue kind tag).requestQueue ∨ t.requestQueue = []))

/-- The line mode is changed by LINE_MODE and by restarts alone. -/
def Obligations.ModeChangesOnlyByLineMode : Prop :=
  ∀ (c : Instr) (s t : State), exec c s = .next t →
    (∀ tag m, c ≠ .lineMode tag m) → c ≠ .powerUp → (∀ tag a, c ≠ .restartFull tag a) → (∀ tag a, c ≠ .restartShift tag a) →
      t.mode = s.mode

/-! ## Invariants -/

/-- While a store runs, its copy is the configuration held: every step keeps it. -/
def Obligations.StoreCopyStaysCurrent : Prop :=
  ∀ s t : State, s.copyCurrent → step s = .next t → t.copyCurrent

/-- The request queue, the report queue, the Call List, the Announced Queue and the three receive error counts keep their bounds, and the
Line Array its length S. Over tables in their one form, no train holds more than 2 hot orders, no loop more than 2 pending cycle requests,
and no miss count comes to 3. -/
def Obligations.BoundsKept : Prop :=
  (∀ s t : State, s.bounded → step s = .next t → t.bounded) ∧
  ∀ s t : State, s.sorted → s.recordsBounded → step s = .next t → t.recordsBounded

/-- F of every slot stays from 0 to P×Q. -/
def Obligations.StockStaysWithinRack : Prop := ∀ s t : State, s.stockBounded → step s = .next t → t.stockBounded

/-- A zone's occupants never number more than its capacity, and its history holds at most 8 grants. -/
def Obligations.ZonesStayWithinCapacity : Prop := ∀ s t : State, s.zonesBounded → step s = .next t → t.zonesBounded

/-- The number of CHARGING trains never exceeds the charger count, over tables in their one form, which every step keeps. A home queue of
PARKED trains, a departure queue of READY ones and a charge queue of CHARGE_WAIT ones stay so, each train standing there once, and no
train waits twice in a zone's queue; so none of these queues holds more than 8. -/
def Obligations.ChargersNeverExceeded : Prop :=
  (∀ s t : State, s.sorted → s.chargersBounded → step s = .next t → t.sorted ∧ t.chargersBounded) ∧
  (∀ s t : State, s.sorted → s.queuesKept → step s = .next t → t.queuesKept) ∧
  ∀ s : State, s.queuesKept → s.homeQ.length ≤ 8 ∧ s.departQ.length ≤ 8 ∧ s.chargeQ.length ≤ 8 ∧
    ∀ e ∈ s.zones, e.2.queue.length ≤ 8

/-- No two call records share an id, and no call is left in the list with 0 containers. Over tables in their one form, the containers of a
load stay those of their calls: aboard a train the call of each drop not DROPPED is LOADED, and in a load slot that of each drop is
PLANNED, or VOID with its drop; no call is in two loads of one kind. -/
def Obligations.CallIdsStayUnique : Prop :=
  (∀ s t : State, s.callIdsUnique → step s = .next t → t.callIdsUnique) ∧
  (∀ s t : State, s.callIdsUnique → s.callsFilled → step s = .next t → t.callsFilled) ∧
  ∀ s t : State, s.sorted → s.callIdsUnique → s.aboardKept → s.slotLoadsKept → step s = .next t → t.aboardKept ∧ t.slotLoadsKept

/-- The state right after reset meets the invariants. The stored image at reset is the model's choice: log entry 1. -/
def Obligations.ResetMeetsInvariants : Prop :=
  State.reset.copyCurrent ∧ State.reset.bounded ∧ State.reset.stockBounded ∧ State.reset.zonesBounded ∧ State.reset.sorted ∧
    State.reset.chargersBounded ∧ State.reset.callIdsUnique ∧ State.reset.recordsBounded ∧ State.reset.queuesKept ∧
    State.reset.callsFilled ∧ State.reset.aboardKept ∧ State.reset.slotLoadsKept

/-! ## Power, restarts and the store -/

/-- With a bad image the part comes up as the state after reset: nothing defined, the defaults, IMAGE in the cause set, and a RESTART
report of kind POWER first in the queue. What lies outside the restart stays: the image as written, what was sent, and the
commands waiting. What the stored image holds at reset is the model's choice: log entry 1. -/
def Obligations.PowerUpWithBadImage : Prop :=
  ∀ s : State, (s.imageCheck = false ∨ s.badMark = true) →
    exec .powerUp s = .next { State.reset with
      image := s.image, imageCheck := s.imageCheck, badMark := s.badMark, sent := s.sent, pending := s.pending }

/-- With a good image the part comes up with the image as its configuration, CLOSED, with slots, loops, trains, zones, queues, calls
and ids at their restart values; so also in the middle of a store with no loss of supply before it, which is the model's choice: log
entry 18. -/
def Obligations.PowerUpWithGoodImage : Prop :=
  ∀ s : State, s.imageCheck = true → s.badMark = false →
    ∃ t, exec .powerUp s = .next t ∧ t.config = s.image ∧ t.imageState = .good ∧ t.causes = ⟨true, false, false, false⟩ ∧
      t.plantTime = 0 ∧ t.mode = .closed ∧ t.lineArray = List.replicate s.image.stations none ∧ t.announced = [] ∧
      t.highest = none ∧ t.calls = [] ∧ t.requestQueue = [] ∧ t.lineErrors = 0 ∧ t.store = .idle ∧
      t.loops = tmap (fun _ d => freshLoop d) s.image.loops ∧ t.trains = tmap (fun _ l => freshTrain l) s.image.trains ∧
      t.zones = tmap (fun _ d => freshZone d) s.image.zones ∧ t.homeQ = [] ∧ t.departQ = [] ∧ t.chargeQ = [] ∧ t.lastGo = none ∧
      t.nextCall = 1 ∧ t.nextLoad = 1 ∧ t.nextHot = 1 ∧
      t.stocks = tmap (fun _ d => (freshSlot d).stock) s.image.slots

/-- A full restart reads the image and adds FULL to the causes; a shift restart keeps the configuration and the stock held and adds
SHIFT. Both close the line and empty it, drop every request, load and queue place, leave the zones with no train and no call of the time
before, and answer once, with an empty body (log entry 7); the calls after a shift restart are OPEN COVER calls that its recomputation
raises. -/
def Obligations.RestartsOnRequest : Prop :=
  ∀ (s : State) (tag : Byte), s.store = .idle →
    (∃ t, exec (.restartFull tag (.ok ())) s = .next t ∧
      t.config = (if s.imageCheck && !s.badMark then s.image else Image.default) ∧
      t.imageState = (if s.imageCheck && !s.badMark then .good else .bad) ∧
      t.causes = { s.causes with full := true, image := s.causes.image || !(s.imageCheck && !s.badMark) } ∧
      t.plantTime = 0 ∧ t.mode = .closed ∧ t.calls = [] ∧ t.requestQueue = [] ∧ t.image = s.image ∧
      t.lineArray = List.replicate t.stations none ∧ t.announced = [] ∧ t.highest = none ∧
      t.loops = tmap (fun _ d => freshLoop d) t.config.loops ∧ t.trains = tmap (fun _ l => freshTrain l) t.config.trains ∧
      t.zones = tmap (fun _ d => freshZone d) t.config.zones ∧ t.stocks = tmap (fun _ d => (freshSlot d).stock) t.config.slots ∧
      t.homeQ = [] ∧ t.departQ = [] ∧ t.chargeQ = [] ∧ t.lastGo = none ∧ t.lineErrors = 0 ∧
      t.nextCall = 1 ∧ t.nextLoad = 1 ∧ t.nextHot = 1 ∧
      t.sent = s.sent ++ [.reply ⟨0x39#8, tag, .accept []⟩]) ∧
    (∃ t, exec (.restartShift tag (.ok ())) s = .next t ∧ t.config = s.config ∧ t.imageState = s.imageState ∧
      t.causes = { s.causes with shift := true } ∧ t.plantTime = 0 ∧ t.mode = .closed ∧ t.requestQueue = [] ∧
      t.image = s.image ∧ t.loops = tmap (fun _ d => freshLoop d) s.config.loops ∧ t.homeQ = [] ∧ t.departQ = [] ∧ t.chargeQ = [] ∧
      t.lineArray = List.replicate s.stations none ∧ t.announced = [] ∧ t.highest = none ∧
      (∀ e ∈ t.calls, e.2.cls = .cover ∧ e.2.state = .opn ∧ e.2.raisedAt = 0 ∧ e.2.load = none ∧ e.2.returned = false) ∧
      t.zones = tmap (fun _ z => freshZone z.dfn) s.zones ∧ t.lastGo = none ∧ t.lineErrors = 0 ∧ t.nextLoad = 1 ∧ t.nextHot = 1 ∧
      t.stocks = tmap (fun _ sl => ⟨sl.dfn, sl.counted, sl.f, 0, none, none, sl.flags.starved⟩) s.slots ∧
      t.trains = tmap (fun _ tr => freshTrain tr.loop) s.trains ∧
      t.sent = s.sent ++ [.reply ⟨0x39#8, tag, .accept []⟩])

/-- STORE copies the configuration held and sets STORING; the end of the write makes the copy the image and GOOD where the read-back
matches, and otherwise leaves the image BAD with its mark. Either way STORE-DONE joins the reports and the state is IDLE. A loss
of supply in the middle of a store leaves a check that does not match, so that the next power-up finds the image BAD; outside a
store it changes nothing (the model's choice: log entry 18). The image content after a failed store is the model's choice: log
entry 2. The items of answers and reports stand as log entry 7 says. -/
def Obligations.StoreBeginsAndEnds : Prop :=
  (∀ (s : State) (tag : Byte), s.store = .idle →
    exec (.store tag (.ok ())) s = .next ({ s with store := .storing s.config }.accepted 0x38#8 tag [])) ∧
  (∀ (s : State) (tag : Byte) (copy : Image), s.store = .storing copy →
    exec (.store tag (.ok ())) s = .next (s.refusedWith 0x38#8 tag .storing)) ∧
  (∀ (s : State) (copy : Image), s.store = .storing copy →
    exec (.storeDone .matched) s =
      .next ({ s with image := copy, imageCheck := true, badMark := false, imageState := .good, store := .idle }.report .storeDone
        [.code (some 0)])) ∧
  (∀ (s : State) (copy : Image) (out : ReadBack), s.store = .storing copy → out ≠ .matched →
    exec (.storeDone out) s =
      .next ({ s with imageCheck := false, badMark := true, imageState := .bad, store := .idle }.report .storeDone [.code (some 1)])) ∧
  (∀ (s : State) (copy : Image), s.store = .storing copy →
    ∃ t u, exec .powerLoss s = .next t ∧ t.imageCheck = false ∧ exec .powerUp t = .next u ∧ u.imageState = .bad ∧
      u.causes.image = true ∧ u.slots = [] ∧ u.loops = [] ∧ u.trains = [] ∧ u.zones = []) ∧
  ∀ s : State, s.store = .idle → exec .powerLoss s = .next s

/-- CAUSE_READ answers the set as it stood and empties it on a clear of 1; CLASS_MASK (outside PAUSE) and LINK_SET set what they name
and nothing else. The items of answers and reports stand as log entry 7 says. -/
def Obligations.SettingsTaken : Prop :=
  (∀ (s : State) (tag : Byte), exec (.causeRead tag (.ok (some 1))) s =
    .next ({ s with causes := ⟨false, false, false, false⟩ }.accepted 0x3A#8 tag [s.causes.item])) ∧
  (∀ (s : State) (tag : Byte) (clear : Option Nat), clear.getD 0 = 0 →
    exec (.causeRead tag (.ok clear)) s = .next (s.accepted 0x3A#8 tag [s.causes.item])) ∧
  (∀ (s : State) (tag : Byte) (a : MaskArgs), a.expedite ≤ 1 → a.seq ≤ 1 → a.pull ≤ 1 → a.cover ≤ 1 → s.store = .idle →
    ∃ t, exec (.classMask tag (.ok a)) s = .next t ∧ t.mask = ⟨a.expedite == 1, a.seq == 1, a.pull == 1, a.cover == 1⟩ ∧
      t.beyondLoops = ({ s with mask := t.mask }.accepted 0x12#8 tag [s.mask.item, t.mask.item]).beyondLoops ∧
      (s.mode ≠ .pause → t = { s with mask := t.mask }.accepted 0x12#8 tag [s.mask.item, t.mask.item])) ∧
  ∀ (s : State) (tag : Byte) (a : LinkSetArgs), 100 ≤ a.train → a.train ≤ 2000 → 100 ≤ a.rack → a.rack ≤ 2000 → s.store = .idle →
    exec (.linkSet tag (.ok a)) s =
      .next ({ s with trainLink := { s.trainLink with interval := a.train }, rackLink := { s.rackLink with interval := a.rack } }.accepted
        0x3C#8 tag [.duration a.train, .duration a.rack])

/-- The queries and STATUS answer and change nothing else. The bodies give what their rules list, item by item in the order of the rule
(log entry 7); queue positions count from 0 (log entry 35), and a loop without an opening since restart may next open at 0 (log entry 33).
For an object that is not defined, the body is its id and defined = no. Where the load record, the last hot order and the link items stand
in TRAIN_QUERY and the earliest opening in LOOP_QUERY, that SLOT_QUERY gives the due time twice, that STATUS gives none for loops and
trains that are not defined, the size of items without a type (log entry 44), and the form of the intruder marks and of the marks of the
history in ZONE_QUERY, are the model's choice: log entry 38. -/
def Obligations.QueriesChangeNothing : Prop :=
  (∀ (s : State) (tag : Byte), exec (.status tag (.ok ())) s = .next (s.accepted 0x3B#8 tag (
    let held (st : CallState) : Nat := (s.calls.filter fun e => e.2.state == st).length
    let link (f : FieldLink) : Body := .duration f.interval :: .half (some f.errors) :: .count f.terminals.length ::
      f.terminals.flatMap fun e =>
        [.small (some e.1), .code (some (if e.2.alive then 0 else 1)), .small (some e.2.misses), .time e.2.lastGood]
    List.flatten [
      [.time (some s.plantTime), .code (some (if s.storing then 1 else 0)),
        .code (some (if s.imageState = .good then 0 else 1)), s.causes.item, .small (some s.requestQueue.length),
        .small (some s.reportQueue.length), .yesNo (some s.gap), .half (some s.lineErrors)],
      [.code (some s.mode.code), .small (some s.stations), .duration s.takt,
        .small (some (s.lineArray.filter Option.isSome).length), .half (some s.announced.length), .time s.highest,
        .time ((s.lineArray[s.stations - 1]?.join).map Build.serial)],
      [.half (some s.calls.length), .half (some (held .opn)), .half (some (held .planned)), .half (some (held .loaded)),
        .half (some (held .void)), s.mask.item, .yesNo (some s.fullReported)],
      (List.range 12).flatMap fun l =>
        [.code ((tget s.loops l).map fun r => r.window.code), .code ((tget s.loops l).map fun r => r.slot.code)],
      (List.range 8).flatMap fun i =>
        [.code ((tget s.trains i).map fun x => x.state.code), .small ((tget s.trains i).bind Train.loop)],
      [.small (some s.homeQ.length), .small (some s.departQ.length), .small (some s.chargeQ.length),
        .small (some (s.trains.filter fun e => e.2.state == .charging).length), .time s.lastGo],
      (List.range 16).flatMap fun z =>
        [.small (some (((tget s.zones z).map fun r => r.occupants.length).getD 0)),
         .small (some (((tget s.zones z).map fun r => r.queue.length).getD 0))],
      link s.trainLink, link s.rackLink]))) ∧
  (∀ (s : State) (tag : Byte) (i : Nat), i ≤ 383 →
    (tget s.slots i = none → exec (.slotQuery tag (.ok i)) s = .next (s.accepted 0x0B#8 tag [.half (some i), .yesNo (some false)])) ∧
    ∀ sl, tget s.slots i = some sl → exec (.slotQuery tag (.ok i)) s = .next (s.accepted 0x0B#8 tag (
      let d := sl.dfn
      let due : Option Nat := if s.mode = .run then some sl.due else none
      List.flatten [
        [.half (some i), .yesNo (some true), .code (some d.state.code), .code (some d.kind.code), .half (some d.partKey),
          .small (some d.station), .small (some d.loop), .small (some d.stop), .small (d.rack.map (·.address)),
          .small (d.rack.map (·.channel)), .half (some d.q), .small (some d.p), .small (some d.size), .small (some d.k),
          .small (some d.lowMark), .small (some d.safety), .small (some d.u16)],
        .count d.usage.length :: d.usage.flatMap fun u => [.small (some u.1), .small (some u.2)],
        [.yesNo (some sl.counted), .half (some sl.f), .small (some sl.h), .time sl.setPointer, .coverage (some sl.cr),
          .coverage (some sl.cp), .coverage (some sl.trigger), .time due,
          .flags [sl.flags.low, sl.flags.risk, sl.flags.starved, sl.flags.oversupplied]],
        [.small (some (s.containersIn i .opn)), .small (some (s.containersIn i .planned)), .small (some (s.containersIn i .loaded)),
          .small (some (ceilDiv sl.f d.q)), .room (s.room i sl), .code (some sl.aspect), .yesNo (some (s.inbound i sl)),
          .time due]]))) ∧
  (∀ (s : State) (tag : Byte) (i : Nat) (c : Call), i ≠ 0 → tget s.calls i = some c →
    exec (.callQueryCall tag (.ok i)) s = .next (s.accepted 0x14#8 tag (
      let drops : List Drop := if c.state = .planned ∨ c.state = .loaded then
        (s.allLoads.filter fun l => c.load == some l.id).flatMap fun l => l.drops.filter fun d => d.call == i else []
      List.flatten [
        [.half (some i), .half (some c.slot), .code (some c.cls.code), .small (some c.containers), .half (some c.pieces),
          .time (c.set.map (·.1)), .time (c.set.map (·.2)), .yesNo (c.set.map fun _ => c.broken), .time (some c.raisedAt),
          .coverage (some c.due), .code (some c.state.code), .half c.load, .yesNo (some c.returned)],
        .count drops.length :: drops.flatMap fun d =>
          [.small (some d.index), .small (some d.wagon), .small (some d.unit), .code (some d.status.code)]]))) ∧
  (∀ (s : State) (tag : Byte) (i : Nat) (sl : Slot), i ≤ 383 → tget s.slots i = some sl →
    ∃ cs : List (Nat × Call), cs.Perm (s.calls.filter fun e => e.2.slot == i) ∧ cs.Pairwise (fun a b => a.1 ≤ b.1) ∧
      exec (.callQuerySlot tag (.ok i)) s = .next (s.accepted 0x14#8 tag (
        .small (some sl.owed) :: .count cs.length :: cs.flatMap fun e =>
          [.half (some e.1), .code (some e.2.cls.code), .small (some e.2.containers), .code (some e.2.state.code),
            .yesNo (some e.2.returned)]))) ∧
  (∀ (s : State) (tag : Byte) (l : Nat), l ≤ 11 →
    (tget s.loops l = none → exec (.loopQuery tag (.ok l)) s = .next (s.accepted 0x1D#8 tag [.small (some l), .yesNo (some false)])) ∧
    ∀ r, tget s.loops l = some r → exec (.loopQuery tag (.ok l)) s = .next (s.accepted 0x1D#8 tag (
      let d := r.dfn
      List.flatten [
        [.small (some l), .yesNo (some true), .small (some d.stops)],
        .count d.gates.length :: d.gates.flatMap fun g => .count g.length :: g.map fun z => .small (some z),
        [.small (some d.wagons), .duration d.window, .duration d.pick, .duration d.period, .duration d.lead,
          .code (some d.source.code), .code (some d.dispatch.code), .code (some d.ret.code)],
        [.code (some r.window.code), .time r.expiry, .time r.lastOpen, .cycles r.active],
        .count r.waiting.length :: r.waiting.map fun c => .cycles (some c),
        .code (some r.slot.code) :: (match r.slot with
          | .empty => loadItems none
          | .picking ld _ | .staged ld => loadItems (some ld)),
        [.time (match r.slot with | .picking _ x => some x | _ => none),
          .time (if r.dfn.source = .internal ∧ r.active.isSome then some r.earliest else none)]]))) ∧
  (∀ (s : State) (tag : Byte) (i : Nat), i ≤ 7 →
    (tget s.trains i = none → exec (.trainQuery tag (.ok i)) s = .next (s.accepted 0x2B#8 tag [.small (some i), .yesNo (some false)])) ∧
    ∀ x, tget s.trains i = some x → exec (.trainQuery tag (.ok i)) s = .next (s.accepted 0x2B#8 tag (
      let link := tget s.trainLink.terminals (trainAddress i)
      let position : Option Nat := match placeIn s.homeQ i, placeIn s.departQ i with
        | some n, _ => some n
        | none, some n => some n
        | none, none => placeIn s.chargeQ i
      List.flatten [
        [.small (some i), .yesNo (some true), .small x.loop, .code (some x.state.code)],
        placeItems x.place, .yesNo (some x.leftHome) :: x.location.items, .small x.leg :: .small x.battery :: loadItems x.load,
        [.time x.coupledAt, .yesNo (some x.lateRep), .yesNo (some x.earlyRep), .small position],
        hotItems x.hotBox, .count x.shelf.length :: x.shelf.flatMap fun h => hotItems (some h),
        (match x.lastHot with
          | some h => hotItems (some h.order)
          | none => hotItems none),
        [.time (x.lastHot.map (·.leftAt)), .code (x.lastHot.map fun h => if h.way = .taken then 0 else 1)],
        noteItems x.noteBox,
        [.small (some s.fleet.chargers), .small (some s.fleet.startLevel), .small (some s.fleet.endLevel), .duration s.fleet.gap,
          .duration s.fleet.coupleLimit],
        [.code (link.map fun y => if y.alive then 0 else 1), .time (link.bind (·.lastGood))]]))) ∧
  ∀ (s : State) (tag : Byte) (i : Nat), i ≤ 15 →
    (tget s.zones i = none → exec (.zoneQuery tag (.ok i)) s = .next (s.accepted 0x32#8 tag [.small (some i), .yesNo (some false)])) ∧
    ∀ z, tget s.zones i = some z → exec (.zoneQuery tag (.ok i)) s = .next (s.accepted 0x32#8 tag (
      let inWindow (g : Nat) : Bool := decide (s.plantTime < g + z.dfn.span * 10)
      let recent := z.history.filter inWindow
      List.flatten [
        [.small (some z.dfn.capacity), .small (some z.dfn.count), .duration z.dfn.span],
        .count z.occupants.length :: z.occupants.flatMap fun o =>
          [.small (some o.train), .code (some (if o.inside then 1 else 0)), .time (some o.grantedAt), .time o.confirmedAt],
        .count z.queue.length :: z.queue.flatMap fun w => [.small (some w.train), .time (some w.joinedAt), .yesNo (some w.stalled)],
        .count z.history.length :: z.history.flatMap fun g => [.time (some g), .yesNo (some (inWindow g))],
        [.time (if z.dfn.count = 0 ∨ recent.length < z.dfn.count then none
          else (recent[recent.length - z.dfn.count]?).map (· + z.dfn.span * 10))],
        .count z.intruders.length :: z.intruders.map fun t => .small (some t),
        [.duration s.gateLimit, .duration s.grantLimit]]))

/-! ## Frames, requests and reports -/

/-- Every frame the part could be sent reads as what it was built of, whatever stands before its start mark but a start mark. -/
def Obligations.FrameReadsAsBuilt : Prop :=
  ∀ (before body : List Byte) (address kind tag : Byte), 0x5A#8 ∉ before → body.length ≤ 1024 →
    readFrame (before ++ frameBytes address kind tag body) = .frame true address kind tag body

/-- A request's kind decides the row it is taken as; the operands read fit the bytes; kinds that are no request kinds are refused
UNKNOWN_KIND, and nothing else happens. The layout of the bodies is deduced: log entry 6. -/
def Obligations.RequestsAreTakenByKind : Prop :=
  (∀ (s : State) (tag kind : Byte), kind ∉ requestKinds →
    exec (.unknownKind tag kind) s = .next (s.refusedWith kind tag .unknownKind)) ∧
  ∀ r : Request, (requestCommand r).answers = some (r.kind, r.tag) ∧ (requestCommand r).wellFormed = true ∧
    (requestKinds.contains r.kind = false →
      ∀ s : State, exec (requestCommand r) s = .next (s.refusedWith r.kind r.tag .unknownKind))

/-- A good frame addressed to 00h joins the request queue, or with 8 held is refused FULL at once; every other complete frame, a
gap and an over-length field raise the receive error count, which stops at 65535. A frame begun before the last restart does
nothing. -/
def Obligations.LineFramesJudged : Prop :=
  (∀ (s : State) (kind tag : Byte) (body : List Byte), body.length ≤ 1024 → s.requestQueue.length < 8 →
    exec (.lineFrameReceived (frameBytes 0 kind tag body) false) s =
      .next { s with requestQueue := s.requestQueue ++ [⟨kind, tag, body⟩] }) ∧
  (∀ (s : State) (kind tag : Byte) (body : List Byte), body.length ≤ 1024 → 8 ≤ s.requestQueue.length →
    exec (.lineFrameReceived (frameBytes 0 kind tag body) false) s =
      .next { s with sent := s.sent ++ [.reply ⟨kind, tag, .refuse .full⟩] }) ∧
  (∀ (s : State) (bs : List Byte) (good : Bool) (address kind tag : Byte) (body : List Byte),
    readFrame bs = .frame good address kind tag body → (good = false ∨ address ≠ 0) →
    exec (.lineFrameReceived bs false) s = .next { s with lineErrors := min 65535 (s.lineErrors + 1) }) ∧
  (∀ s : State, exec (.lineFrameGap false) s = .next { s with lineErrors := min 65535 (s.lineErrors + 1) }) ∧
  (∀ (s : State) (n : Nat), 1024 < n → exec (.overLengthFrame n false) s = .next { s with lineErrors := min 65535 (s.lineErrors + 1) }) ∧
  ∀ (s : State) (bs : List Byte) (n : Nat),
    exec (.lineFrameReceived bs true) s = .next s ∧ exec (.lineFrameGap true) s = .next s ∧ exec (.overLengthFrame n true) s = .next s

/-- The oldest report begins sending with the gap flag, which clears; a report that joins a queue of 64 or more drops the oldest
and sets the flag. That REPORT_SEND with no report queued does nothing is deduced: log entry 17. -/
def Obligations.ReportsSentOldestFirst : Prop :=
  (∀ (s : State) (r : Report) (rest : List Report), s.reportQueue = r :: rest →
    exec .reportSend s = .next { s with reportQueue := rest, gap := false, sent := s.sent ++ [.report s.gap r] }) ∧
  (∀ s : State, s.reportQueue = [] → exec .reportSend s = .next s) ∧
  (∀ (s : State) (k : ReportKind) (b : Body), s.reportQueue.length < 64 →
    s.report k b = { s with reportQueue := s.reportQueue ++ [⟨k, s.plantTime, b⟩] }) ∧
  ∀ (s : State) (k : ReportKind) (b : Body) (r : Report) (rest : List Report), s.reportQueue = r :: rest →
    64 ≤ s.reportQueue.length → s.report k b = { s with reportQueue := rest ++ [⟨k, s.plantTime, b⟩], gap := true }

/-! ## The Sequence Tracker -/

/-- LINE_SET sets S and takt; a new S gives S empty pitches; nothing beyond the coverage and calls of the slots moves with it. A change
leaves every slot with the results of a recomputation and the COVER calls it asks for. The items of answers and reports stand as log
entry 7 says. -/
def Obligations.LineSetTaken : Prop :=
  ∀ (s : State) (tag : Byte) (a : LineSetArgs), 1 ≤ a.stations → a.stations ≤ 128 → 300 ≤ a.takt → a.takt ≤ 6000 → s.store = .idle →
    (a.stations = s.stations ∨ ∀ p ∈ s.lineArray, p = none) →
    ∃ t, exec (.lineSet tag (.ok a)) s = .next t ∧ t.stocks = s.stocks ∧
      t.beyondSlots = ({ s with
        stations := a.stations, takt := a.takt,
        lineArray := if a.stations = s.stations then s.lineArray else List.replicate a.stations none }.accepted 0x01#8 tag
          [.small (some a.stations), .duration a.takt]).beyondSlots ∧
      (a.stations = s.stations → a.takt = s.takt → t = s.accepted 0x01#8 tag [.small (some a.stations), .duration a.takt]) ∧
      (a.stations ≠ s.stations ∨ a.takt ≠ s.takt → s.callIdsUnique → tsorted s.slots = true → t.covered ∧ t.coverMet)

/-- LINE_MODE sets the mode. Entering CLOSED shuts every window without a load and sends every HOLDING train RETURNING, and touches no
call, load or queue place; entering RUN or PAUSE leaves no train that could go waiting at the head of the departure queue, and entering
RUN leaves every slot with the results of a recomputation. The order of the effects is the model's choice: log entry 12. The items of
answers and reports stand as log entry 7 says. -/
def Obligations.LineModeTaken : Prop :=
  ∀ (s : State) (tag : Byte) (m : Nat), m ≤ 2 →
    ∃ t, exec (.lineMode tag (.ok m)) s = .next t ∧ t.mode = readMode m ∧ t.stocks = s.stocks ∧
      t.beyondTrains = ({ s with mode := readMode m }.accepted 0x02#8 tag [.code (some s.mode.code), .code (some m)]).beyondTrains ∧
      (readMode m = s.mode → t = s.accepted 0x02#8 tag [.code (some m), .code (some m)]) ∧
      (m = 2 → s.mode ≠ .closed →
        (∀ l, tget t.loops l = (tget s.loops l).map fun r => if r.window = .shut then r else { r with window := .shut, expiry := none }) ∧
        (∀ i, tget t.trains i = (tget s.trains i).map fun x => if x.state = .holding then { x with state := .returning } else x) ∧
        t.slots = s.slots ∧ t.calls = s.calls ∧ t.nextLoad = s.nextLoad ∧ t.homeQ = s.homeQ ∧ t.departQ = s.departQ ∧
        t.chargeQ = s.chargeQ ∧ t.lastGo = s.lastGo) ∧
      (m ≤ 1 → readMode m ≠ s.mode → t.departQ = [] ∨ t.mayGo = false) ∧
      (m = 0 → s.mode ≠ .run → s.callIdsUnique → tsorted s.slots = true → t.covered)

/-- ANNOUNCE appends its builds and moves the highest serial to the last of them. It leaves every slot with the results of a
recomputation, the COVER calls it asks for, and every set that can be called, called. The items of answers and reports stand as log
entry 7 says. -/
def Obligations.AnnounceTaken : Prop :=
  ∀ (s : State) (tag : Byte) (bs : List Build), 1 ≤ bs.length → bs.length ≤ 16 → (∀ b ∈ bs, 1 ≤ b.serial ∧ b.model ≤ 31) →
    bs.Pairwise (fun a b => a.serial < b.serial) → (∀ b ∈ bs, s.highest.getD 0 < b.serial) → s.announced.length + bs.length ≤ 256 →
    ∃ t, exec (.announce tag (.ok bs)) s = .next t ∧ t.stocks = s.stocks ∧
      t.beyondSlots = ({ s with announced := s.announced ++ bs, highest := bs.getLast?.map Build.serial }.accepted 0x03#8 tag
        [.small (some bs.length), .half (some (s.announced.length + bs.length)),
         .half (some (256 - (s.announced.length + bs.length)))]).beyondSlots ∧
      (s.callIdsUnique → tsorted s.slots = true → t.covered ∧ t.coverMet ∧ t.setsCalled)

/-- WITHDRAW removes the build, and breaks exactly the SEQ calls held whose set takes it in; no call is removed. It leaves every slot with
the results of a recomputation and the COVER calls it asks for. That only sets called before the request break is the model's choice: log
entry 14. The items of answers and reports stand as log entry 7 says. -/
def Obligations.WithdrawTaken : Prop :=
  ∀ (s : State) (tag : Byte) (serial : Nat) (b : Build), serial ≠ 0 → (∀ x, some x ∈ s.lineArray → x.serial ≠ serial) →
    s.announced.find? (fun x : Build => x.serial == serial) = some b →
    ∃ t, exec (.withdraw tag (.ok serial)) s = .next t ∧ t.stocks = s.stocks ∧
      t.beyondSlots = ({ s with announced := s.announced.filter fun x : Build => x.serial != serial }.accepted 0x04#8 tag
        [.time (some serial), .half (some (s.announced.filter fun x : Build => x.serial != serial).length)]).beyondSlots ∧
      (s.callIdsUnique → tsorted s.slots = true → t.covered ∧ t.coverMet) ∧
      ∀ id c, tget s.calls id = some c → ∃ c', tget t.calls id = some c' ∧
        c'.broken = (c.broken || (decide (c.cls = .seq) &&
          (match tget s.slots c.slot with | some sl => sl.dfn.use b.model == 1 | none => false) &&
          (match c.set with | some (first, last) => decide (first ≤ serial) && decide (serial ≤ last) | none => false)))

/-- ADVANCE in RUN moves every position one on and brings the head of the Announced Queue, or an empty pitch, to position 0. -/
def Obligations.AdvanceMovesLine : Prop :=
  ∀ (s : State) (tag : Byte) (gap : Option Nat), s.mode = .run → gap.getD 0 ≤ 1 →
    let line := (if gap = some 1 then none else s.announced.head?) :: s.lineArray.dropLast
    let queue := if gap = some 1 then s.announced else s.announced.tail
    ∃ t body, exec (.advance tag (.ok gap)) s = .next t ∧
      t.beyondSlots = ({ s with lineArray := line, announced := queue }.accepted 0x05#8 tag body).beyondSlots

/-- After an ADVANCE each slot's F has fallen, once, by what the build now at its station uses, to 0 at least; a build that found too
little sets STARVED. Nothing else of the stock moves. Every slot is left with the results of a recomputation and the COVER calls it asks
for. The answer gives the serial that left, the one now at position 0, the builds on the line and those announced (the order of the items:
log entry 7). -/
def Obligations.AdvanceConsumesStock : Prop :=
  ∀ (s : State) (tag : Byte) (gap : Option Nat), s.mode = .run → gap.getD 0 ≤ 1 → tsorted s.slots = true →
    ∃ t, exec (.advance tag (.ok gap)) s = .next t ∧
      t.sent = s.sent ++ [.reply ⟨0x05#8, tag, .accept
        [.time ((s.lineArray.getLast?.join).map Build.serial), .time ((t.lineArray.head?.join).map Build.serial),
         .small (some (t.lineArray.filter Option.isSome).length), .half (some t.announced.length)]⟩] ∧
      (s.callIdsUnique → t.covered ∧ t.coverMet) ∧
      ∀ i, tget t.stocks i = (tget s.slots i).map fun sl =>
        let u := sl.dfn.usePitch (t.lineArray[sl.dfn.station]?.join)
        { sl.stock with f := sl.f - u, starved := sl.flags.starved || decide (sl.f < u) }

/-- LINE_SET, ANNOUNCE, WITHDRAW and ADVANCE are refused with the first reason of their tables, whole, and taken where none applies;
a LINE_SET that gives the values held changes nothing. -/
def Obligations.LineRequestsRefusedInOrder : Prop :=
  ∀ (s : State) (tag : Byte),
    (exec (.lineSet tag .malformed) s = .next (s.refusedWith 0x01#8 tag .format) ∧
      ∀ a : LineSetArgs,
        let inRange := 1 ≤ a.stations ∧ a.stations ≤ 128 ∧ 300 ≤ a.takt ∧ a.takt ≤ 6000
        let builds := ∃ b, some b ∈ s.lineArray
        (¬ inRange → exec (.lineSet tag (.ok a)) s = .next (s.refusedWith 0x01#8 tag .range)) ∧
        (∀ copy, inRange → s.store = .storing copy → exec (.lineSet tag (.ok a)) s = .next (s.refusedWith 0x01#8 tag .storing)) ∧
        (inRange → s.store = .idle → a.stations ≠ s.stations → builds →
          exec (.lineSet tag (.ok a)) s = .next (s.refusedWith 0x01#8 tag .state)) ∧
        (inRange → s.store = .idle → a.stations = s.stations ∨ ¬ builds →
          ∃ t body, exec (.lineSet tag (.ok a)) s = .next t ∧ t.sent = s.sent ++ [.reply ⟨0x01#8, tag, .accept body⟩]) ∧
        (inRange → s.store = .idle → a.stations = s.stations → a.takt = s.takt →
          ∃ body, exec (.lineSet tag (.ok a)) s = .next (s.accepted 0x01#8 tag body))) ∧
    (exec (.announce tag .malformed) s = .next (s.refusedWith 0x03#8 tag .format) ∧
      ∀ bs : List Build,
        let listed := 1 ≤ bs.length ∧ bs.length ≤ 16
        let inRange := ∀ b ∈ bs, 1 ≤ b.serial ∧ b.model ≤ 31
        let rising := bs.Pairwise (fun a b => a.serial < b.serial) ∧ ∀ b ∈ bs, s.highest.getD 0 < b.serial
        (¬ listed → exec (.announce tag (.ok bs)) s = .next (s.refusedWith 0x03#8 tag .format)) ∧
        (listed → ¬ inRange → exec (.announce tag (.ok bs)) s = .next (s.refusedWith 0x03#8 tag .range)) ∧
        (listed → inRange → ¬ rising → exec (.announce tag (.ok bs)) s = .next (s.refusedWith 0x03#8 tag .order)) ∧
        (listed → inRange → rising → 256 < s.announced.length + bs.length →
          exec (.announce tag (.ok bs)) s = .next (s.refusedWith 0x03#8 tag .full)) ∧
        (listed → inRange → rising → s.announced.length + bs.length ≤ 256 →
          ∃ t body, exec (.announce tag (.ok bs)) s = .next t ∧ t.sent = s.sent ++ [.reply ⟨0x03#8, tag, .accept body⟩])) ∧
    (exec (.withdraw tag .malformed) s = .next (s.refusedWith 0x04#8 tag .format) ∧
      exec (.withdraw tag (.ok 0)) s = .next (s.refusedWith 0x04#8 tag .range) ∧
      ∀ n : Nat, n ≠ 0 →
        ((∃ b, some b ∈ s.lineArray ∧ b.serial = n) → exec (.withdraw tag (.ok n)) s = .next (s.refusedWith 0x04#8 tag .state)) ∧
        ((∀ b, some b ∈ s.lineArray → b.serial ≠ n) → (∀ b ∈ s.announced, b.serial ≠ n) →
          exec (.withdraw tag (.ok n)) s = .next (s.refusedWith 0x04#8 tag .undefined)) ∧
        ((∀ b, some b ∈ s.lineArray → b.serial ≠ n) → (∃ b ∈ s.announced, b.serial = n) →
          ∃ t body, exec (.withdraw tag (.ok n)) s = .next t ∧ t.sent = s.sent ++ [.reply ⟨0x04#8, tag, .accept body⟩])) ∧
    (exec (.advance tag .malformed) s = .next (s.refusedWith 0x05#8 tag .format) ∧
      ∀ gap : Option Nat,
        (gap.getD 0 ≤ 1 → s.mode = .run →
          ∃ t body, exec (.advance tag (.ok gap)) s = .next t ∧ t.sent = s.sent ++ [.reply ⟨0x05#8, tag, .accept body⟩]) ∧
        (1 < gap.getD 0 → exec (.advance tag (.ok gap)) s = .next (s.refusedWith 0x05#8 tag .range)) ∧
        (gap.getD 0 ≤ 1 → s.mode ≠ .run → exec (.advance tag (.ok gap)) s = .next (s.refusedWith 0x05#8 tag .mode)))

/-! ## Slots and coverage -/

/-- SLOT_DEF replaces the record whole: uncounted, empty, with the coverage of a slot that holds nothing; no call is raised, and no other
slot moves. SLOT_DEF with defined = no removes the record. The items of answers and reports stand as log entry 7 says. That the channel is
not judged without a rack address is deduced: log entry 22. -/
def Obligations.SlotDefReplacesRecord : Prop :=
  (∀ (s : State) (tag : Byte) (a : SlotDefArgs), a.usage.length ≤ 8 → slotDefInRange a = true → (a.usage.map Prod.fst).Nodup →
    s.store = .idle → (∃ r, tget s.loops a.loop = some r ∧ a.stop < r.dfn.stops) →
    (a.rack.isSome → ∀ e ∈ s.slots, e.1 ≠ a.slot → e.2.dfn.rack ≠ slotDefPlace a) →
    (∀ e ∈ s.calls, e.2.slot ≠ a.slot) → (∀ sl, tget s.slots a.slot = some sl → sl.h = 0) →
    (∀ l ∈ s.allLoads, ∀ d ∈ l.drops, d.slot ≠ a.slot) →
    ∃ t, exec (.slotDef tag (.ok a)) s = .next t ∧
      tget t.slots a.slot = some (s.recomputed a.slot (freshSlot (slotDefDefn a))) ∧
      (∀ j, j ≠ a.slot → tget t.slots j = tget s.slots j) ∧ t.calls = s.calls ∧ t.nextCall = s.nextCall ∧
      t.beyondSlots = ({ s with
        rackLink := match a.rack with
          | some r => s.rackLink.join (rackAddress r)
          | none => s.rackLink }.accepted 0x08#8 tag [.half (some a.slot), .yesNo (some true)]).beyondSlots) ∧
  ∀ (s : State) (tag : Byte) (i : Nat), i ≤ 383 → s.store = .idle → (∀ e ∈ s.calls, e.2.slot ≠ i) →
    (∀ sl, tget s.slots i = some sl → sl.h = 0) → (∀ l ∈ s.allLoads, ∀ d ∈ l.drops, d.slot ≠ i) →
    ∃ t, exec (.slotUndefine tag (.ok i)) s = .next t ∧ t.slots = tdel s.slots i ∧ t.calls = s.calls ∧ t.nextCall = s.nextCall ∧
      t.beyondSlots = (s.accepted 0x08#8 tag [.half (some i), .yesNo (some false)]).beyondSlots

/-- SLOT_STATE naming the state held changes nothing. Another state is taken, with the stock kept; in a slot that goes SUSPENDED every
PLANNED call becomes VOID with its drops, and a load left with VOID drops alone is dissolved, its slot EMPTY. That the dissolution comes
before the deferred close it makes way for, and what comes between, are the model's choice: log entry 13. The items of answers and reports
stand as log entry 7 says. -/
def Obligations.SlotStateTaken : Prop :=
  ∀ (s : State) (tag : Byte) (a : SlotStateArgs) (sl : Slot), a.slot ≤ 383 → a.value ≤ 1 → s.store = .idle →
    tget s.slots a.slot = some sl →
    let body : Body := [.half (some a.slot), .code (some sl.dfn.state.code), .code (some a.value)]
    ∃ t, exec (.slotState tag (.ok a)) s = .next t ∧
      (∀ j, tget t.stocks j = if j = a.slot then some { sl.stock with dfn := { sl.dfn with state := readSlotState a.value } }
        else tget s.stocks j) ∧
      t.beyondLoops = (s.accepted 0x09#8 tag body).beyondLoops ∧
      (readSlotState a.value = sl.dfn.state → t = s.accepted 0x09#8 tag body) ∧
      (a.value = 0 → t.beyondSlots = (s.accepted 0x09#8 tag body).beyondSlots) ∧
      (a.value = 1 → sl.dfn.state = .active → s.callIdsUnique →
        let hit (id : Nat) : Bool := match tget s.calls id with
          | some c => c.slot == a.slot && c.state == .planned
          | none => false
        let voided (ld : Load) : Load :=
          { ld with drops := ld.drops.map fun d => if hit d.call = true then { d with status := .void } else d }
        let after (r : LoopRec) : LoopRec := { r with slot := match r.slot with
          | .empty => .empty
          | .picking ld x => .picking (voided ld) x
          | .staged ld => .staged (voided ld) }
        let gone := (∃ id, hit id = true) ∧ ∃ r ld, tget s.loops sl.dfn.loop = some r ∧ r.slot.load? = some ld ∧
          ∀ d ∈ (voided ld).drops, d.status = .void
        (∀ e ∈ t.calls, e.2.slot = a.slot → e.2.state ≠ .planned) ∧
        (∀ j, j ≠ sl.dfn.loop → tget t.loops j = (tget s.loops j).map after) ∧
        (¬ gone → tget t.loops sl.dfn.loop = (tget s.loops sl.dfn.loop).map after ∧
          ∀ id c, tget s.calls id = some c → hit id = true → tget t.calls id = some { c with state := .void }) ∧
        (gone → ∀ r, tget s.loops sl.dfn.loop = some r → r.window ≠ .closeWait →
          tget t.loops sl.dfn.loop = some { r with slot := .empty }))

/-- SLOT_COUNT sets F to the value, clamped at P×Q, makes the slot counted, clears STARVED where F is above 0 and the owed pulls, and trims
the OPEN calls by what the room lacks, COVER first, then PULL, then EXPEDITE; OVERSUPPLIED stands where that is not enough. The slot is
left with the results of a recomputation and the COVER call it asks for; no other slot moves. The items of answers and reports stand as
log entry 7 says. -/
def Obligations.SlotCountTaken : Prop :=
  ∀ (s : State) (tag : Byte) (a : SlotCountArgs) (sl : Slot), a.slot ≤ 383 → a.value ≤ 9999 → tget s.slots a.slot = some sl →
    let f := min (sl.dfn.p * sl.dfn.q) a.value
    let held (cls : CallClass) : Nat := ((s.openCall a.slot cls).map (·.2.containers)).getD 0
    let waiting (s : State) (cls : CallClass) : Nat :=
      ((s.calls.filter fun e => e.2.slot == a.slot && e.2.state == .opn && e.2.cls == cls).map (·.2.containers)).sum
    let lack := (-(s.room a.slot { sl with f := f })).toNat
    let cover := min (held .cover) lack
    let pull := min (held .pull) (lack - cover)
    let expedite := min (held .expedite) (lack - cover - pull)
    ∃ t n sl', exec (.slotCount tag (.ok a)) s = .next t ∧
      (∀ j, tget t.stocks j = if j = a.slot then some { sl.stock with counted := true, f := f, starved := sl.flags.starved && f == 0 }
        else tget s.stocks j) ∧
      t.beyondSlots = (s.accepted 0x0A#8 tag
        [.half (some a.slot), .half (some a.value), .half (some f), .small (some n)]).beyondSlots ∧
      (∀ j, j ≠ a.slot → tget t.slots j = tget s.slots j) ∧ tget t.slots a.slot = some sl' ∧ sl'.owed = 0 ∧
      (s.callIdsUnique →
        n = cover + pull + expedite ∧ sl'.flags.oversupplied = decide (n < lack) ∧ t.recomputed a.slot sl' = sl' ∧
        t.coverMetAt a.slot sl' ∧
        (0 < lack → waiting t .cover + cover = waiting s .cover ∧ waiting t .pull + pull = waiting s .pull ∧
          waiting t .expedite + expedite = waiting s .expedite))

/-- The walk serves the longest run of pitches that the pieces cover; with every pitch served, what is left counts by U16; the result
stays within 4095 and never falls with more pieces, so that Cp is never below Cr. A recomputation writes Cr, Cp, T, the due time,
FFFFFFFEh at most, LOW and RISK; where Cp is then no more than T, an ACTIVE counted BULK slot asks for a COVER call of min(K, R), or its
OPEN one grows to min(K, c + R). -/
def Obligations.WalkServesGreatestPrefix : Prop :=
  (∀ (uses : List Nat) (x : Nat),
    (walk uses x).1 ≤ uses.length ∧ (uses.take (walk uses x).1).sum ≤ x ∧
    ((walk uses x).1 < uses.length → x < (uses.take ((walk uses x).1 + 1)).sum ∧ (walk uses x).2 = none) ∧
    ((walk uses x).1 = uses.length → (walk uses x).2 = some (x - uses.sum))) ∧
  (∀ (u16 : Nat) (uses : List Nat) (x : Nat), uses.sum ≤ x →
    coverage u16 uses x =
      if 0 < u16 then min 4095 (uses.length + (x - uses.sum) * 16 / u16) else if uses.sum < x then 4095 else min 4095 uses.length) ∧
  (∀ (u16 : Nat) (uses : List Nat) (x y : Nat), x ≤ y → coverage u16 uses x ≤ coverage u16 uses y ∧ coverage u16 uses y ≤ 4095) ∧
  (∀ (s : State) (i : Nat) (sl : Slot),
    let uses := (s.futurePitches sl.dfn.station).map sl.dfn.usePitch
    let lead := ceilDiv (((tget s.loops sl.dfn.loop).map (·.dfn.lead)).getD 0 * 10) s.takt
    let u := s.recomputed i sl
    u.cr ≤ u.cp ∧ u.cr = coverage sl.dfn.u16 uses sl.f ∧
      u.cp = coverage sl.dfn.u16 uses (sl.f + sl.dfn.q *
        (s.containersIn i .loaded + s.containersIn i .planned + s.containersIn i .opn + sl.h)) ∧
      u.trigger = lead + sl.dfn.safety ∧ u.due = min 4294967294 (s.plantTime + u.cr * s.takt) ∧
      (u.flags.low = true ↔ u.cr ≤ sl.dfn.lowMark) ∧
      (u.flags.risk = true ↔ u.cr < lead ∧ s.containersIn i .loaded + s.containersIn i .planned = 0) ∧
      { u with
        cr := sl.cr, cp := sl.cp, trigger := sl.trigger, due := sl.due
        flags := { u.flags with low := sl.flags.low, risk := sl.flags.risk } } = sl) ∧
  ∀ (s : State) (i : Nat) (sl : Slot), s.callIdsUnique → tget s.slots i = some sl →
    let t := (s.askCover i).1
    let wanted := sl.dfn.kind = .bulk ∧ sl.dfn.state = .active ∧ sl.counted = true ∧ sl.cp ≤ sl.trigger
    (¬ wanted → t = s) ∧
    (wanted → s.openCall i .cover = none → 1 ≤ min (sl.dfn.k : Int) (s.room i sl) → s.calls.length < 512 → ∃ id c,
      tget s.calls id = none ∧ t.calls = s.calls ++ [(id, c)] ∧
      c = ⟨i, .cover, min sl.dfn.k (s.room i sl).toNat, sl.dfn.q, none, false, s.plantTime, sl.cr, .opn, none, false, 0⟩) ∧
    (wanted → s.openCall i .cover = none → min (sl.dfn.k : Int) (s.room i sl) < 1 → t = s) ∧
    (wanted → s.openCall i .cover = none → 512 ≤ s.calls.length → t.calls = s.calls) ∧
    ∀ id c, wanted → s.openCall i .cover = some (id, c) →
      let n := min (sl.dfn.k : Int) (c.containers + s.room i sl)
      (c.containers < n → t.calls = tmod s.calls id fun c => { c with containers := n.toNat, due := min c.due sl.cr }) ∧
      (n ≤ c.containers → t = s)

/-! ## Calls and planning -/

/-- EXPEDITE grants min(count, R): the slot's OPEN EXPEDITE call grows by it, or a new call of it comes into being, which in PAUSE may
open a window. The items of answers and reports stand as log entry 7 says. -/
def Obligations.ExpediteGrants : Prop :=
  ∀ (s : State) (tag : Byte) (a : ExpediteArgs) (sl : Slot), s.callIdsUnique → a.slot ≤ 383 → 1 ≤ a.count → a.count ≤ 8 →
    tget s.slots a.slot = some sl → sl.dfn.kind = .bulk → sl.counted = true → 1 ≤ s.room a.slot sl →
    ((s.openCall a.slot .expedite).isSome ∨ s.calls.length < 512) →
    let n := min a.count (s.room a.slot sl).toNat
    let after := ((s.openCall a.slot .expedite).map (·.2.containers)).getD 0 + n
    ∃ t id, exec (.expedite tag (.ok a)) s = .next t ∧ t.stocks = s.stocks ∧
      t.beyondLoops = (s.accepted 0x10#8 tag
        [.half (some id), .small (some a.count), .small (some n), .small (some after)]).beyondLoops ∧
      (∀ e, s.openCall a.slot .expedite = some e → id = e.1) ∧ (s.openCall a.slot .expedite = none → tget s.calls id = none) ∧
      (s.mode ≠ .pause ∨ (s.openCall a.slot .expedite).isSome → ∃ c, tget t.calls id = some c ∧ c.slot = a.slot ∧
        c.cls = .expedite ∧ c.state = .opn ∧ c.containers = after)

/-- CANCEL of an OPEN call takes it out of the list: a call that stands under its id afterwards is one raised just then. CANCEL of a
PLANNED call makes it VOID with its drops, in the place they have in the load; where that leaves no drop that is not VOID, the load is
dissolved and the call is gone, as an OPEN one is, and the answer gives no state after; a window in CLOSE_WAIT then closes, which may plan
what stands in the list. The items of answers and reports stand as log entry 7 says. -/
def Obligations.CancelTaken : Prop :=
  (∀ (s : State) (tag : Byte) (id : Nat) (c : Call), s.callIdsUnique → id ≠ 0 → tget s.calls id = some c → c.state = .opn →
    ∃ t, exec (.cancel tag (.ok id)) s = .next t ∧ t.stocks = s.stocks ∧
      t.beyondSlots = (s.accepted 0x11#8 tag [.half (some id), .code (some 0), .code none]).beyondSlots ∧
      ∀ c', tget t.calls id = some c' → c'.state = .opn ∧ c'.raisedAt = s.plantTime) ∧
  (∀ (s : State) (tag : Byte) (id : Nat) (c : Call) (sl : Slot) (r : LoopRec) (ld : Load), s.callIdsUnique → id ≠ 0 →
    tget s.calls id = some c → c.state = .planned → tget s.slots c.slot = some sl → tget s.loops sl.dfn.loop = some r →
    r.slot.load? = some ld →
    ∃ t, exec (.cancel tag (.ok id)) s = .next t ∧ t.stocks = s.stocks ∧
      t.beyondLoops = (s.accepted 0x11#8 tag [.half (some id), .code (some 1),
        .code (if (ld.drops.all fun d => d.call == id || d.status == .void) && (ld.drops.any fun d => d.call == id) then none
          else some 3)]).beyondLoops ∧
      ((∃ d ∈ ld.drops, d.call ≠ id ∧ d.status ≠ .void) →
        tget t.calls id = some { c with state := .void } ∧ t.trains = s.trains ∧ t.homeQ = s.homeQ ∧
        t.loops = tmap (fun _ x => { x with slot := x.slot.mapLoad fun l => l.voidCall id }) s.loops) ∧
      ((∀ d ∈ ld.drops, d.call = id ∨ d.status = .void) → r.window ≠ .closeWait →
        ∃ r', tget t.loops sl.dfn.loop = some r' ∧ r'.slot = .empty ∧ t.trains = s.trains ∧ t.homeQ = s.homeQ) ∧
      ((∀ d ∈ ld.drops, d.call = id ∨ d.status = .void) → (∃ d ∈ ld.drops, d.call = id) →
        ∀ c', tget t.calls id = some c' → c'.state ≠ .void ∧ c'.raisedAt = s.plantTime ∧ (r.window ≠ .closeWait → c'.state = .opn)))

/-- SEQ_FLUSH raises one call of one container for the first of the pending builds, Q at most, names them in its answer, and moves the
set pointer to the last of them. Its due coverage is Cr, or that of the slot's SEQ call with the latest set where that is larger. The
set check does the same for a set of Q builds where Q are pending, and nothing where fewer are. The items of answers and reports stand
as log entry 7 says. -/
def Obligations.SeqFlushRaisesSet : Prop :=
  (∀ (s : State) (tag : Byte) (i : Nat) (sl : Slot) (b0 b1 : Build), i ≤ 383 → tget s.slots i = some sl → sl.dfn.kind = .seq →
    sl.counted = true → ((s.pendingBuilds sl).take sl.dfn.q).head? = some b0 →
    ((s.pendingBuilds sl).take sl.dfn.q).getLast? = some b1 → 1 ≤ s.room i sl → s.calls.length < 512 →
    let n := ((s.pendingBuilds sl).take sl.dfn.q).length
    ∃ t id c sl' p, exec (.seqFlush tag (.ok i)) s = .next t ∧ t.stocks = s.stocks ∧
      t.beyondSlots = (s.accepted 0x13#8 tag
        [.half (some id), .time (some b0.serial), .time (some b1.serial), .half (some n)]).beyondSlots ∧
      tget s.calls id = none ∧ tget t.calls id = some c ∧ c.slot = i ∧ c.cls = .seq ∧ c.state = .opn ∧ c.containers = 1 ∧
      c.pieces = n ∧ c.set = some (b0.serial, b1.serial) ∧ c.broken = false ∧ c.returned = false ∧ c.raisedAt = s.plantTime ∧
      ((∀ e ∈ s.calls, e.2.slot ≠ i ∨ e.2.cls ≠ .seq) → c.due = sl.cr) ∧
      (∀ e ∈ s.calls, ∀ f l, e.2.slot = i → e.2.cls = .seq → e.2.set = some (f, l) →
        (∀ e' ∈ s.calls, e' ≠ e → e'.2.slot = i → e'.2.cls = .seq → ∀ f' l', e'.2.set = some (f', l') → f' < f) →
        c.due = max sl.cr e.2.due) ∧
      tget t.slots i = some sl' ∧ sl'.setPointer = some p ∧ b1.serial ≤ p ∧
      ((s.pendingBuilds { sl with setPointer := some b1.serial }).length < sl.dfn.q → p = b1.serial)) ∧
  ∀ (s : State) (i : Nat) (sl : Slot), tget s.slots i = some sl → sl.dfn.kind = .seq → 0 < sl.dfn.q →
    let set := (s.announced.filter fun b => sl.dfn.use b.model == 1 && sl.setPointer.all fun p => decide (p < b.serial)).take sl.dfn.q
    let due := sl.counted = true ∧ set.length = sl.dfn.q ∧ 1 ≤ s.room i sl
    (¬ due → s.checkSet i = (s, false)) ∧
    (due → 512 ≤ s.calls.length → (s.checkSet i).1.calls = s.calls ∧ (s.checkSet i).1.slots = s.slots) ∧
    ∀ b0 b1, due → s.calls.length < 512 → set.head? = some b0 → set.getLast? = some b1 → ∃ id c,
      tget s.calls id = none ∧ (s.checkSet i).1.calls = s.calls ++ [(id, c)] ∧ c.slot = i ∧ c.cls = .seq ∧ c.containers = 1 ∧
      c.pieces = sl.dfn.q ∧ c.set = some (b0.serial, b1.serial) ∧ c.state = .opn ∧ sl.cr ≤ c.due ∧
      (s.checkSet i).1.slots = tmod s.slots i fun x => { x with setPointer := some b1.serial }

/-- The calls offered at a close are the OPEN calls of the loop's ACTIVE slots that the mask and the line mode let through, ordered by
level, due coverage and raised at; calls equal in these keep the order in which they joined the list. What the planner places lies on
distinct aligned units of the loop's wagons, every call whole. A call is left out only where an earlier set of its slot is neither VOID
nor placed, or where its containers, each put at the lowest free start, do not all fit beside what was placed before it. -/
def Obligations.PlannerOrdersAndPacks : Prop :=
  (∀ (s : State) (l wagons : Nat),
    let level : CallClass → Nat | .expedite => 1 | .seq => 2 | .pull => 3 | .cover => 4
    (∀ c : Call, s.eligible l c = true ↔ c.state = .opn ∧
      (match c.cls with
        | .expedite => s.mask.expedite | .seq => s.mask.seq | .pull => s.mask.pull | .cover => s.mask.cover) = true ∧
      (s.mode = .run ∨ s.mode = .pause ∧ c.cls = .expedite) ∧
      ∃ sl, tget s.slots c.slot = some sl ∧ sl.dfn.loop = l ∧ sl.dfn.state = .active) ∧
    ((s.arbitration l).Perm (s.calls.filter fun e => s.eligible l e.2) ∧
      (s.arbitration l).Pairwise (fun a b => level a.2.cls < level b.2.cls ∨ level a.2.cls = level b.2.cls ∧
        (a.2.due < b.2.due ∨ a.2.due = b.2.due ∧ a.2.raisedAt ≤ b.2.raisedAt)) ∧
      ∀ cls due at_, (s.arbitration l).filter (fun e => decide (e.2.cls = cls ∧ e.2.due = due ∧ e.2.raisedAt = at_)) =
        (s.calls.filter fun e => s.eligible l e.2).filter (fun e => decide (e.2.cls = cls ∧ e.2.due = due ∧ e.2.raisedAt = at_))) ∧
    (s.pack l wagons).taken.Nodup ∧ (∀ u ∈ (s.pack l wagons).taken, u < 8 * wagons) ∧
    (s.pack l wagons).taken = ((s.pack l wagons).placed.flatMap fun p => p.at_.flatMap fun st => unitsFrom st p.size) ∧
    ((s.pack l wagons).placed.map fun p => (p.id, p.call)).Sublist (s.arbitration l) ∧
    ∀ p ∈ (s.pack l wagons).placed, p.at_.length = p.call.containers ∧
      (∃ sl, tget s.slots p.call.slot = some sl ∧ p.size = sl.dfn.size ∧ p.stop = sl.dfn.stop) ∧
      ∀ st ∈ p.at_, st % p.size = 0 ∧ st % 8 + p.size ≤ 8) ∧
  (∀ (s : State) (l wagons : Nat) (pre post : List (Nat × Call)) (e : Nat × Call) (sl : Slot), s.callIdsUnique →
    s.arbitration l = pre ++ e :: post → tget s.slots e.2.slot = some sl →
    let k := pre.foldl (s.packCall wagons) ⟨[], [], 0⟩
    let fits := fitCall sl.dfn.size wagons e.2.containers k.taken
    k.placed <+: (s.pack l wagons).placed ∧ k.taken <+: (s.pack l wagons).taken ∧
    (e.1 ∈ (s.pack l wagons).placed.map Placed.id ↔ s.setsInOrder e.2 (k.placed.map Placed.id) = true ∧ fits.isSome = true) ∧
    ∀ p ∈ (s.pack l wagons).placed, p.id = e.1 → p.call = e.2 ∧ some p.at_ = fits) ∧
  (∀ (s : State) (c : Call) (placed : List Nat), s.setsInOrder c placed = true ↔
    ∀ first last, c.cls = .seq → c.set = some (first, last) → ∀ e ∈ s.calls, ∀ f n, e.2.slot = c.slot → e.2.cls = .seq →
      e.2.set = some (f, n) → f < first → e.2.state = .void ∨ e.1 ∈ placed) ∧
  ∀ (size wagons : Nat) (taken : List Nat),
    let free (st : Nat) : Prop := st < wagons * 8 ∧ st % size = 0 ∧ st % 8 + size ≤ 8 ∧ ∀ u, st ≤ u → u < st + size → u ∉ taken
    (∀ st, fitOne size wagons taken = some st ↔ free st ∧ ∀ u, u < st → ¬ free u) ∧
    (fitCall size wagons 0 taken = some []) ∧
    ∀ n ls, fitCall size wagons (n + 1) taken = some ls ↔ ∃ st rest, ls = st :: rest ∧ fitOne size wagons taken = some st ∧
      fitCall size wagons n (taken ++ unitsFrom st size) = some rest

/-! ## Loops -/

/-- LOOP_DEF gives the loop the definition of the request; a loop that was undefined begins SHUT, EMPTY and without requests. A loop
redefined keeps its last window-open time, and its requests where the source is the same; where they allow it the window opens under the
new definition. With a definition changed, the slots of the loop are recomputed; other loops and every slot's stock stay. LOOP_DEF with
defined = no removes the loop. That the answer says requests were cleared on every change of source, held or not, is the model's choice:
log entry 32. The items of answers and reports stand as log entry 7 says. -/
def Obligations.LoopDefTaken : Prop :=
  (∀ (s : State) (tag : Byte) (a : LoopDefArgs), a.gates.length = a.stops + 1 → (∀ g ∈ a.gates, g.length ≤ 4 ∧ g.Nodup) →
    loopDefInRange a = true → s.store = .idle → s.loopDefinable a = true →
    let cleared := match tget s.loops a.loop with
      | some r => r.dfn.source != (loopDefDefn a).source
      | none => false
    ∃ t r', exec (.loopDef tag (.ok a)) s = .next t ∧ tget t.loops a.loop = some r' ∧ r'.dfn = loopDefDefn a ∧
      (∀ j, j ≠ a.loop → tget t.loops j = tget s.loops j) ∧ t.stocks = s.stocks ∧
      (tget s.loops a.loop = none → r' = freshLoop (loopDefDefn a)) ∧
      (cleared = true → r'.active = none ∧ r'.waiting = []) ∧
      (∀ r, tget s.loops a.loop = some r →
        let kept : LoopRec := { r with
          dfn := loopDefDefn a, active := if cleared then none else r.active, waiting := if cleared then [] else r.waiting }
        let opens := kept.dfn.source = .internal ∧ kept.active.isSome ∧
          (∀ x, r.lastOpen = some x → x + max (kept.dfn.period * 10) 10 ≤ s.plantTime) ∧ s.modeOpens a.loop = true
        (¬ opens → r' = kept) ∧
        (opens → 0 < kept.dfn.window → r' = { kept with
          window := .opn, lastOpen := some s.plantTime, expiry := some (s.plantTime + kept.dfn.window * 10) }) ∧
        (¬ opens ∨ 0 < kept.dfn.window → t.trains = s.trains ∧ t.homeQ = s.homeQ ∧ t.nextLoad = s.nextLoad ∧
          (tsorted s.slots = true → ∀ j, (∀ sl, tget s.slots j = some sl → sl.dfn.loop ≠ a.loop) → tget t.slots j = tget s.slots j) ∧
          (r.dfn = loopDefDefn a → t.slots = s.slots ∧ t.calls = s.calls))) ∧
      ((tget s.loops a.loop).map (·.dfn) ≠ some (loopDefDefn a) → s.callIdsUnique → tsorted s.slots = true →
        ∀ i sl, tget t.slots i = some sl → sl.dfn.loop = a.loop → t.recomputed i sl = sl ∧ t.coverMetAt i sl) ∧
      t.beyondLoops = (s.accepted 0x18#8 tag [.small (some a.loop), .yesNo (some true), .yesNo (some cleared)]).beyondLoops) ∧
  ∀ (s : State) (tag : Byte) (l : Nat), l ≤ 11 → s.store = .idle → s.loopUndefinable l = true →
    exec (.loopUndefine tag (.ok l)) s =
      .next ({ s with loops := tdel s.loops l }.accepted 0x18#8 tag [.small (some l), .yesNo (some false)])

/-- CYCLE on a loop without an active request makes its count active and tests the opening; on a loop with one it waits behind the
others, 2 at most. The items of answers and reports stand as log entry 7 says. -/
def Obligations.CycleTaken : Prop :=
  ∀ (s : State) (tag : Byte) (a : CycleArgs) (r : LoopRec), a.loop ≤ 11 → cycleInRange a.count = true →
    tget s.loops a.loop = some r → r.dfn.source = .internal →
    (r.active.isSome → r.waiting.length < 2 →
      exec (.cycle tag (.ok a)) s = .next ((s.modLoop a.loop fun r => { r with waiting := r.waiting ++ [a.count] }).accepted 0x19#8 tag
        [.small (some a.loop), .small (some (r.waiting.length + 1)), .small (some (r.waiting.length + 1))])) ∧
    (r.active.isSome → 2 ≤ r.waiting.length → exec (.cycle tag (.ok a)) s = .next (s.refusedWith 0x19#8 tag .full)) ∧
    (r.active = none →
      let body : Body := [.small (some a.loop), .small (some 0), .small (some r.waiting.length)]
      let s1 := s.modLoop a.loop fun r => { r with active := some a.count }
      let opens := r.window = .shut ∧ r.earliest ≤ s.plantTime ∧ s.modeOpens a.loop = true
      (¬ opens → exec (.cycle tag (.ok a)) s = .next (s1.accepted 0x19#8 tag body)) ∧
      (opens → 0 < r.dfn.window → exec (.cycle tag (.ok a)) s =
        .next (((s1.modLoop a.loop fun r => { r with
          window := .opn, lastOpen := some s.plantTime, expiry := some (s.plantTime + r.dfn.window * 10) }).reportWindow
            a.loop .opened .request).accepted 0x19#8 tag body)) ∧
      (opens → r.dfn.window = 0 → ∃ t r', exec (.cycle tag (.ok a)) s = .next t ∧ t.stocks = s.stocks ∧
        t.beyondLoops = (s.accepted 0x19#8 tag body).beyondLoops ∧ tget t.loops a.loop = some r' ∧
        r'.lastOpen = some s.plantTime ∧ r'.window ≠ .opn))

/-- CYCLE_STOP removes the active request and every pending one, and touches nothing else: an OPEN window keeps its expiry, and no
window opens for want of a request. The items of answers and reports stand as log entry 7 says. -/
def Obligations.CycleStopRemovesRequests : Prop :=
  ∀ (s : State) (tag : Byte), exec (.cycleStop tag .malformed) s = .next (s.refusedWith 0x1A#8 tag .format) ∧
    ∀ l : Nat,
      (11 < l → exec (.cycleStop tag (.ok l)) s = .next (s.refusedWith 0x1A#8 tag .range)) ∧
      (l ≤ 11 → tget s.loops l = none → exec (.cycleStop tag (.ok l)) s = .next (s.refusedWith 0x1A#8 tag .undefined)) ∧
      ∀ r, l ≤ 11 → tget s.loops l = some r →
        (r.dfn.source = .external → exec (.cycleStop tag (.ok l)) s = .next (s.refusedWith 0x1A#8 tag .mode)) ∧
        (r.dfn.source = .internal →
          ∃ t, exec (.cycleStop tag (.ok l)) s = .next t ∧
            t = (s.modLoop l fun r => { r with active := none, waiting := [] }).accepted 0x1A#8 tag
              [.small (some l), .code (some r.window.code)] ∧
            (r.window = .shut → exec (.windowOpenTime l) t = .next t) ∧
            (r.active = none → r.waiting = [] → r.window = .shut → tget t.loops l = some r))

/-- WINDOW_OPEN opens the SHUT window of an EXTERNAL loop, without an expiry of its own. The opening time opens the window of an
INTERNAL loop where the opening condition holds, and does nothing where it does not. That a row whose condition fails does nothing
is deduced: log entry 17. The items of answers and reports stand as log entry 7 says. -/
def Obligations.WindowsOpen : Prop :=
  (∀ (s : State) (tag : Byte) (l : Nat) (r : LoopRec), l ≤ 11 → tget s.loops l = some r → r.dfn.source = .external →
    s.mode ≠ .closed → r.window = .shut →
    exec (.windowOpen tag (.ok l)) s =
      .next (((s.modLoop l fun r => { r with window := .opn, lastOpen := some s.plantTime }).reportWindow l .opened
        .request).accepted 0x1B#8 tag [])) ∧
  ∀ (s : State) (l : Nat) (r : LoopRec), tget s.loops l = some r →
    let opens := r.dfn.source = .internal ∧ r.window = .shut ∧ r.active.isSome ∧ r.earliest ≤ s.plantTime ∧
      (s.mode = .run ∨ s.mode = .pause ∧ s.expediteWaits l = true)
    (¬ opens → exec (.windowOpenTime l) s = .next s) ∧
    (opens → 0 < r.dfn.window → exec (.windowOpenTime l) s =
      .next ((s.modLoop l fun r => { r with
        window := .opn, lastOpen := some s.plantTime, expiry := some (s.plantTime + r.dfn.window * 10) }).reportWindow l .opened
          .request)) ∧
    (opens → r.dfn.window = 0 → ∃ t r', exec (.windowOpenTime l) s = .next t ∧ t.stocks = s.stocks ∧
      t.beyondLoops = s.beyondLoops ∧ tget t.loops l = some r' ∧ r'.lastOpen = some s.plantTime ∧ r'.window ≠ .opn)

/-- A close asked for over a load slot that is not EMPTY defers the window. Over an EMPTY one the close is taken: what the planner places
becomes PLANNED in a load that is PICKING for the pick time, or nothing is placed and the slot stays EMPTY. With a pick time of 0 s the
load is STAGED at once, and couples at once where a train is parked for it; the calls placed, none of them without a container (an
invariant: CallIdsStayUnique), are then LOADED. The close counts against the active request, and a waiting one
follows a request used up; a load planned takes its load id, which WINDOW_CLOSE answers with the outcome CLOSED. That a load keeps the
four figures of its close, and what its eligible calls count, are the model's: log entries 8 and 27; so are the order of what a close
brings about and the STAGED report of a pick of 0 s: log entries 11 and 21. That a row whose condition fails does nothing is deduced: log
entry 17. The items of answers and reports stand as log entry 7 says. -/
def Obligations.ClosesPlanOrDefer : Prop :=
  (∀ (s : State) (l : Nat) (r : LoopRec), tget s.loops l = some r → r.window = .opn → r.slot ≠ .empty →
    (∀ x, r.expiry = some x → x ≤ s.plantTime → exec (.windowExpiry l) s =
      .next ((s.modLoop l fun r => { r with window := .closeWait, expiry := none }).reportWindow l .deferred .expiry)) ∧
    ∀ tag, l ≤ 11 → r.dfn.source = .external → exec (.windowClose tag (.ok l)) s =
      .next (((s.modLoop l fun r => { r with window := .closeWait, expiry := none }).reportWindow l .deferred
        .windowClose).accepted 0x1C#8 tag [.small (some l), .code (some 1), .half none])) ∧
  (∀ (s : State) (l : Nat) (r : LoopRec), tget s.loops l = some r →
    (r.window ≠ .opn ∨ (∀ x, r.expiry = some x → s.plantTime < x) → exec (.windowExpiry l) s = .next s) ∧
    ∀ dissolved, r.window ≠ .closeWait ∨ r.slot ≠ .empty → exec (.deferredClose l dissolved) s = .next s) ∧
  ∀ (s : State) (c : Instr) (l : Nat) (r : LoopRec), s.callIdsUnique → tget s.loops l = some r → r.slot = .empty →
    (c = .windowExpiry l ∧ r.window = .opn ∧ (∃ x, r.expiry = some x ∧ x ≤ s.plantTime) ∨
      (∃ d, c = .deferredClose l d) ∧ r.window = .closeWait ∨
      (∃ tag, c = .windowClose tag (.ok l)) ∧ l ≤ 11 ∧ r.dfn.source = .external ∧ r.window = .opn) →
    let k := s.pack l r.dfn.wagons
    let ld := s.makeLoad l k (s.arbitration l).length
    let asked := match r.active with
      | some (.times n) => if 1 < n then (some (.times (n - 1)), r.waiting) else (r.waiting.head?, r.waiting.tail)
      | asked => (asked, r.waiting)
    let again := r.dfn.source = .internal ∧ asked.1.isSome ∧ (∀ x, r.lastOpen = some x → x + max (r.dfn.period * 10) 10 ≤ s.plantTime) ∧
      s.mode ≠ .closed
    let once := 0 < r.dfn.window ∨ ¬ again
    ∃ t r', exec c s = .next t ∧ t.stocks = s.stocks ∧ tget t.loops l = some r' ∧ r'.dfn = r.dfn ∧
      (∀ j, j ≠ l → tget t.loops j = tget s.loops j) ∧
      t.beyondLoops = ({ s with sent := t.sent, requestQueue := t.requestQueue } : State).beyondLoops ∧
      (r.dfn.source = .external → r'.window = .shut) ∧
      (∀ tag, c = .windowClose tag (.ok l) →
        let u := s.accepted 0x1C#8 tag [.small (some l), .code (some 0), .half (if k.placed = [] then none else some ld.id)]
        t.sent = u.sent ∧ t.requestQueue = u.requestQueue) ∧
      ((∀ tag, c ≠ .windowClose tag (.ok l)) → t.sent = s.sent ∧ t.requestQueue = s.requestQueue) ∧
      (once → (r'.active, r'.waiting) = asked) ∧
      (¬ again → r'.window = .shut ∧ r'.expiry = none ∧ r'.lastOpen = r.lastOpen) ∧
      (k.placed = [] → t.nextLoad = s.nextLoad) ∧
      (k.placed ≠ [] → once ∨ 0 < r.dfn.pick → t.nextLoad = if ld.id < 65534 then ld.id + 1 else 1) ∧
      (k.placed ≠ [] → r.dfn.pick = 0 → once →
        (s.parkedFor l = none → r'.slot = .staged ld ∧ t.trains = s.trains ∧
          ∀ p ∈ k.placed, ∃ call, tget t.calls p.id = some call ∧ call.state = .planned ∧ call.load = some ld.id) ∧
        ∀ i x, s.parkedFor l = some i → tget s.trains i = some x → r'.slot = .empty ∧
          tget t.trains i = some { x with
            state := .coupling, load := some ld.coupled, coupledAt := some s.plantTime, lateRep := false, earlyRep := false } ∧
          (s.callsFilled →
            ∀ p ∈ k.placed, ∃ call, tget t.calls p.id = some call ∧ call.state = .loaded ∧ call.load = some ld.id)) ∧
      (k.placed = [] → r'.slot = .empty ∧ t.calls = s.calls ∧ t.trains = s.trains) ∧
      (k.placed ≠ [] → 0 < r.dfn.pick → r'.slot = .picking ld (s.plantTime + r.dfn.pick * 10) ∧ t.trains = s.trains ∧
        ∀ p ∈ k.placed, ∃ call, tget t.calls p.id = some call ∧ call.state = .planned ∧ call.load = some ld.id)

/-- The pick expiry makes a load STAGED; where no train can take it, it waits. A STAGED load and the first parked train of its loop couple
outside CLOSED: the train takes the load, the PLANNED calls become LOADED and the VOID ones leave the list. That a load keeps the four
figures of its close, and what its eligible calls count, are the model's: log entries 8 and 27. That a row whose condition fails does
nothing is deduced: log entry 17. The items of answers and reports stand as log entry 7 says. -/
def Obligations.LoadsStageAndCouple : Prop :=
  (∀ (s : State) (l : Nat) (r : LoopRec) (ld : Load) (x : Nat), tget s.loops l = some r → r.slot = .picking ld x →
    (s.plantTime < x → exec (.pickExpiry l) s = .next s) ∧
    (x ≤ s.plantTime → s.mode = .closed ∨ s.parkedFor l = none →
      exec (.pickExpiry l) s = .next ((s.modLoop l fun r => { r with slot := .staged ld }).reportLoad l .staged ld none))) ∧
  (∀ (s : State) (l : Nat), s.mode = .closed ∨ s.parkedFor l = none → exec (.couplingBegin l) s = .next s) ∧
  ∀ (s : State) (l i : Nat) (r : LoopRec) (tr : Train) (ld : Load) (c : Instr), s.callIdsUnique → tget s.loops l = some r →
    (c = .couplingBegin l ∧ r.slot = .staged ld ∨ c = .pickExpiry l ∧ ∃ x, r.slot = .picking ld x ∧ x ≤ s.plantTime) →
    s.mode ≠ .closed → s.parkedFor l = some i → tget s.trains i = some tr →
    ∃ t, exec c s = .next t ∧ t.stocks = s.stocks ∧ t.beyondLoops = s.beyondLoops ∧ i ∉ t.homeQ ∧
      tget t.trains i = some { tr with
        state := .coupling, load := some ld.coupled, coupledAt := some s.plantTime, lateRep := false, earlyRep := false } ∧
      (∀ d ∈ ld.drops, ∀ x, tget s.calls d.call = some x →
        (x.state = .planned → tget t.calls d.call = some { x with state := .loaded }) ∧
        (x.state = .void → ∀ y, tget t.calls d.call = some y → y.state ≠ .void)) ∧
      (r.window ≠ .closeWait → tget t.loops l = some { r with slot := .empty } ∧ t.homeQ = s.homeQ.filter (· != i) ∧
        ∀ j, j ≠ l → tget t.loops j = tget s.loops j)

/-! ## Trains -/

/-- TRAIN_DEF makes the train UNPLACED with the loop named and takes it out of the home queue and of every zone, or removes it; other
trains, the slots, the calls and the loops stay. The items of answers and reports stand as log entry 7 says. -/
def Obligations.TrainDefTaken : Prop :=
  ∀ (s : State) (tag : Byte) (a : TrainDefArgs), a.train ≤ 7 →
    (∀ l, a.define = some (some l) → l ≤ 11 ∧ (tget s.loops l).isSome) → s.store = .idle →
    (∀ x, tget s.trains a.train = some x →
      (x.state = .unplaced ∨ x.state = .parked ∨ x.state = .outOfService) ∧ x.hotBox = none ∧ x.shelf = []) →
    let link : FieldLink := match a.define with
      | some _ => s.trainLink.join (trainAddress a.train)
      | none => { s.trainLink with terminals := tdel s.trainLink.terminals (trainAddress a.train) }
    ∃ t, exec (.trainDef tag (.ok a)) s = .next t ∧
      tget t.trains a.train = (a.define.map fun loop =>
        match tget s.trains a.train with
        | none => freshTrain loop
        | some x => { x with
            loop := loop, state := .unplaced, place := none, location := .unknown, leg := none, battery := none, load := none,
            wish := ⟨none, none⟩ }) ∧
      (∀ j, j ≠ a.train → tget t.trains j = tget s.trains j) ∧
      (∀ e ∈ t.zones, e.2.holds a.train = false ∧ e.2.waits a.train = false ∧ a.train ∉ e.2.intruders) ∧
      t.homeQ = s.homeQ.filter (· != a.train) ∧ t.departQ = s.departQ ∧ t.chargeQ = s.chargeQ ∧ t.lastGo = s.lastGo ∧
      t.slots = s.slots ∧ t.calls = s.calls ∧ t.loops = s.loops ∧
      t.beyondZones = ({ s with trainLink := link }.accepted 0x20#8 tag
        [.small (some a.train), .yesNo (some a.define.isSome), .small a.define.join]).beyondZones

/-- The fleet form sets the five values. Free chargers go to the head of the charge queue; the departure queue sends its head, and with a
gap of 0 all of it, where the new gap allows; a CHARGING train at the new end level parks or couples; a COUPLING train past the new limit
is reported LATE; no other train changes but that a parked one may couple. TRAIN_ASSIGN sets a train's loop and makes the coupling test
for it: a STAGED load there couples the first parked train of the loop outside CLOSED, and nothing else happens where none waits. The
order of the effects is the model's choice: log entry 15. The items of answers and reports stand as log entry 7 says. -/
def Obligations.FleetAndAssignTaken : Prop :=
  (∀ (s : State) (tag : Byte) (f : Fleet), 1 ≤ f.chargers → f.chargers ≤ 4 → 10 ≤ f.startLevel → f.startLevel ≤ 90 → 20 ≤ f.endLevel →
    f.endLevel ≤ 100 → f.startLevel < f.endLevel → f.gap ≤ 600 → 10 ≤ f.coupleLimit → f.coupleLimit ≤ 600 → s.store = .idle →
    s.chargingCount ≤ f.chargers →
    ∃ t, exec (.fleetSettings tag (.ok f)) s = .next t ∧ t.stocks = s.stocks ∧
      t.beyondTrains = ({ s with fleet := f }.accepted 0x20#8 tag
        [.small (some f.chargers), .small (some f.startLevel), .small (some f.endLevel), .duration f.gap,
         .duration f.coupleLimit]).beyondTrains ∧
      (s.chargeQ = [] → s.departQ = [] → (∀ e ∈ s.trains, e.2.state ≠ .charging) →
        t.slots = s.slots ∧ t.calls = s.calls ∧ t.loops = s.loops ∧ t.homeQ = s.homeQ ∧ t.departQ = [] ∧ t.chargeQ = [] ∧
        ∀ i, tget t.trains i = (tget s.trains i).map fun x =>
          if x.state = .coupling ∧ x.load.isSome ∧ (∃ c, x.coupledAt = some c ∧ c + f.coupleLimit * 10 ≤ s.plantTime) then
            { x with lateRep := true } else x) ∧
      (s.sorted → s.queuesKept →
        let goes := s.mode ≠ .closed ∧ s.departQ ≠ [] ∧ ∀ g, s.lastGo = some g → g + f.gap * 10 ≤ s.plantTime
        let gone : List Nat := if f.gap = 0 then s.departQ else s.departQ.take 1
        (goes → t.departQ = s.departQ.drop gone.length ∧ t.lastGo = some s.plantTime) ∧
        (¬ goes → t.departQ = s.departQ ∧ t.lastGo = s.lastGo) ∧
        t.chargeQ <:+ s.chargeQ ∧ (t.chargeQ = [] ∨ f.chargers ≤ t.chargingCount) ∧
        ∀ i x, tget s.trains i = some x →
          let full := ∃ b, x.battery = some b ∧ f.endLevel ≤ b
          let late := x.load.isSome ∧ ∃ c, x.coupledAt = some c ∧ c + f.coupleLimit * 10 ≤ s.plantTime
          ∃ y, tget t.trains i = some y ∧
            (x.state = .charging → full → y.state = .parked ∧ i ∈ t.homeQ ∨ y.state = .coupling) ∧
            (x.state = .charging → ¬ full → y = x) ∧
            (x.state = .chargeWait → i ∈ s.chargeQ → i ∈ t.chargeQ ∧ y = x ∨ i ∉ t.chargeQ ∧
              (y = { x with state := .charging } ∨ full ∧ (y.state = .parked ∧ i ∈ t.homeQ ∨ y.state = .coupling))) ∧
            (x.state = .ready → y = if goes ∧ i ∈ gone then
              { x with state := .onRun, place := some (.leg 0), leg := some 0, leftHome := false } else x) ∧
            (x.state = .coupling → y = if late then { x with lateRep := true } else x) ∧
            (x.state = .parked → y = x ∨ y.state = .coupling) ∧
            (x.state ≠ .charging → x.state ≠ .chargeWait → x.state ≠ .ready → x.state ≠ .coupling → x.state ≠ .parked → y = x))) ∧
  ∀ (s : State) (tag : Byte) (a : AssignArgs) (x : Train), a.train ≤ 7 →
    (∀ l, a.loop = some l → l ≤ 11 ∧ (tget s.loops l).isSome) → s.store = .idle → tget s.trains a.train = some x →
    (x.state = .unplaced ∨ x.state = .parked ∨ x.state = .outOfService) →
    let body : Body := [.small (some a.train), .small x.loop, .small a.loop]
    ∃ t x', exec (.trainAssign tag (.ok a)) s = .next t ∧ t.stocks = s.stocks ∧
      t.beyondLoops = (s.accepted 0x21#8 tag body).beyondLoops ∧ tget t.trains a.train = some x' ∧ x'.loop = a.loop ∧
      ((s.mode = .closed ∨ ∀ l r ld, a.loop = some l → tget s.loops l = some r → r.slot ≠ .staged ld) →
        t = (s.modTrain a.train fun y => { y with loop := a.loop }).accepted 0x21#8 tag body) ∧
      ∀ l, a.loop = some l →
        let s1 := s.modTrain a.train fun y => { y with loop := some l }
        (∃ u, exec (.couplingBegin l) s1 = .next u ∧ t = u.accepted 0x21#8 tag body) ∧
        (s1.parkedFor l = none → t = s1.accepted 0x21#8 tag body) ∧
        ∀ r ld i tr, tget s.loops l = some r → r.slot = .staged ld → s.mode ≠ .closed → s1.parkedFor l = some i →
          tget s1.trains i = some tr → i ∉ t.homeQ ∧ tget t.trains i = some { tr with
            state := .coupling, load := some ld.coupled, coupledAt := some s.plantTime, lateRep := false, earlyRep := false }

/-- RELEASE puts a READY train of a HELD loop at the tail of the departure queue; a train that finds it empty and may go, goes. The
departure time sends the head, and with a gap above 0 only the head, ON_RUN at LEG 0. The coupled flag of a reply makes a COUPLING train
whose load it names READY, with COUPLE CONFIRMED, and puts it into the queue on an AUTO loop; a COUPLING or READY train seen away from
home is reported EARLY once, and nothing more. Positions in the queue count from 0 (log entry 35). That a row whose condition fails
does nothing is deduced: log entry 17. The items of answers and reports stand as log entry 7 says. -/
def Obligations.DeparturesGoInOrder : Prop :=
  (∀ (s : State) (i named : Nat) (flag : Bool) (x : Train) (ld : Load), tget s.trains i = some x → x.load = some ld →
    let u := (s.modTrain i fun y => { y with state := .ready }).reportCouple i .ready 1 ld none
    (¬ (flag = true ∧ x.state = .coupling ∧ named = ld.id) → s.coupledFlag i named flag = s) ∧
    (flag = true → x.state = .coupling → named = ld.id →
      (s.autoDispatch x = false → s.coupledFlag i named flag = u) ∧
      (s.autoDispatch x = true → s.coupledFlag i named flag =
        { u with departQ := s.departQ ++ [i] }.reportDepart i .ready 0 (some ld.id) (some s.departQ.length) none))) ∧
  (∀ (s : State) (i : Nat) (x : Train) (at_ : Location), tget s.trains i = some x → (x.state = .coupling ∨ x.state = .ready) →
    let u := s.modTrain i fun y => { y with location := at_ }
    (at_ = .home ∨ at_ = .unknown ∨ x.earlyRep = true → tget (s.takeLocation i at_).trains i = tget u.trains i ∧
      { s.takeLocation i at_ with trains := s.trains } = s) ∧
    (at_ ≠ .home → at_ ≠ .unknown → x.earlyRep = false → tget (s.takeLocation i at_).trains i = some { x with
        location := at_, earlyRep := true } ∧
      { s.takeLocation i at_ with trains := s.trains } = s.reportDepart i x.state 2 (x.load.map Load.id) none (some at_))) ∧
  (∀ (s : State) (tag : Byte) (i : Nat) (x : Train), i ≤ 7 → tget s.trains i = some x → x.state = .ready → s.autoDispatch x = false →
    i ∉ s.departQ →
    (s.departQ ≠ [] ∨ s.mayGo = false →
      exec (.release tag (.ok i)) s = .next (({ s with departQ := s.departQ ++ [i] }.reportDepart i .ready 0 (x.load.map Load.id)
        (some s.departQ.length) none).accepted 0x22#8 tag [])) ∧
    (s.departQ = [] → s.mayGo = true → ∃ t, exec (.release tag (.ok i)) s = .next t ∧ t.departQ = [] ∧ t.lastGo = some s.plantTime ∧
      tget t.trains i = some { x with state := .onRun, place := some (.leg 0), leg := some 0, leftHome := false } ∧
      (∀ j, j ≠ i → tget t.trains j = tget s.trains j) ∧ t.chargeQ = s.chargeQ ∧ t.homeQ = s.homeQ ∧ t.slots = s.slots ∧
      t.calls = s.calls ∧ t.loops = s.loops ∧ t.beyondTrains = (s.accepted 0x22#8 tag []).beyondTrains)) ∧
  (∀ s : State, s.departQ = [] ∨ s.mode = .closed ∨ (∃ g, s.lastGo = some g ∧ s.plantTime < g + s.fleet.gap * 10) →
    exec .departureGo s = .next s) ∧
  ∀ (s : State) (i : Nat) (rest : List Nat), s.departQ = i :: rest → s.mode ≠ .closed →
    (∀ g, s.lastGo = some g → g + s.fleet.gap * 10 ≤ s.plantTime) →
    ∃ t, exec .departureGo s = .next t ∧ t.lastGo = some s.plantTime ∧ t.chargeQ = s.chargeQ ∧ t.homeQ = s.homeQ ∧
      t.slots = s.slots ∧ t.calls = s.calls ∧ t.loops = s.loops ∧ t.beyondTrains = s.beyondTrains ∧
      tget t.trains i = (tget s.trains i).map (fun x =>
        { x with state := .onRun, place := some (.leg 0), leg := some 0, leftHome := false }) ∧
      (0 < s.fleet.gap → t.departQ = rest ∧ ∀ j, j ≠ i → tget t.trains j = tget s.trains j) ∧ (s.fleet.gap = 0 → t.departQ = [])

/-- Whatever the command, a train comes ON_RUN, but from a stop of its run, only by a GO of that moment, outside CLOSED and no sooner after
the last GO than the departure gap in force; two at once need a gap of 0. The time of the last GO moves with a GO alone, or is forgotten
at a restart. -/
def Obligations.GoPermissionsKeepTheGap : Prop :=
  (∀ (c : Instr) (s t : State), exec c s = .next t →
    t.lastGo = s.lastGo ∨ t.lastGo = none ∧ (c = .powerUp ∨ (∃ tag a, c = .restartFull tag a) ∨ ∃ tag a, c = .restartShift tag a) ∨
      t.lastGo = some s.plantTime ∧ t.mode ≠ .closed ∧ ∀ g, s.lastGo = some g → g + t.fleet.gap * 10 ≤ s.plantTime) ∧
  let left (s t : State) (i : Nat) : Prop := (∃ x, tget t.trains i = some x ∧ x.state = .onRun) ∧
    ∀ x, tget s.trains i = some x → x.state ≠ .onRun ∧ x.state ≠ .atStop
  ∀ (c : Instr) (s t : State) (i : Nat), exec c s = .next t → left s t i →
    t.lastGo = some s.plantTime ∧ t.mode ≠ .closed ∧ (∀ g, s.lastGo = some g → g + t.fleet.gap * 10 ≤ s.plantTime) ∧
      ∀ j, left s t j → j ≠ i → t.fleet.gap = 0

/-- CUT makes every waiting drop CARRIED and sends the train RETURNING from the place it has; RETURN sends a HOLDING train RETURNING.
The items of answers and reports stand as log entry 7 says. -/
def Obligations.RunsCutAndReturned : Prop :=
  (∀ (s : State) (tag : Byte) (i : Nat) (x : Train), i ≤ 7 → tget s.trains i = some x → (x.state = .onRun ∨ x.state = .atStop) →
    let x' : Train := { x with state := .returning, load := x.load.map fun ld => { ld with drops := ld.drops.map fun d =>
      if d.status = .pending ∨ d.status = .go ∨ d.status = .hold then { d with status := .carried } else d } }
    ∃ t, exec (.cut tag (.ok i)) s = .next t ∧ tget t.trains i = some x' ∧ (∀ j, j ≠ i → tget t.trains j = tget s.trains j) ∧
      t.stocks = s.stocks ∧
      t.beyondSlots = ({ s with trains := t.trains }.accepted 0x23#8 tag
        [.small (some i), .half (x.load.map Load.id), .small (some (countStatus x'.drops .dropped)),
         .small (some (countStatus x'.drops .carried))]).beyondSlots) ∧
  ∀ (s : State) (tag : Byte) (i : Nat) (x : Train), i ≤ 7 → tget s.trains i = some x → x.state = .holding →
    exec (.retRun tag (.ok i)) s = .next (((s.modTrain i fun y => { y with state := .returning }).reportReturning i x 2).accepted
      0x24#8 tag [])

/-- ABANDON gives the load back to an EMPTY load slot, STAGED as it was, or dissolves it, as its answer says, and the train parks. In
CLOSED, and wherever no parked train meets a STAGED load, it stays parked; where one does, the first parked train of the loop couples the
load given back. The calls of a load given back are PLANNED again; those of a dissolved load are OPEN again, or merged into the OPEN call
of their class, where every drop names a LOADED call (an invariant: CallIdsStayUnique). That a load keeps the four figures of its close,
what its eligible calls count, and the order of the effects are the model's choice: log entries 8, 27, 15 and 31. The items of answers and
reports stand as log entry 7 says. -/
def Obligations.AbandonTaken : Prop :=
  ∀ (s : State) (tag : Byte) (i : Nat) (x : Train) (ld : Load), i ≤ 7 → tget s.trains i = some x →
    (x.state = .coupling ∨ x.state = .ready) → x.load = some ld →
    let back := s.slotEmpty ld.loop
    ∃ t x', exec (.abandon tag (.ok i)) s = .next t ∧ t.stocks = s.stocks ∧ i ∉ t.departQ ∧
      t.beyondTrains = (s.accepted 0x25#8 tag
        [.small (some i), .half (some ld.id), .code (some (if back then 0 else 1))]).beyondTrains ∧
      tget t.trains i = some x' ∧ (x'.state = .parked ∧ x'.load = none ∨ x'.state = .coupling) ∧
      let home := s.homeQ ++ [i]
      let serves (j : Nat) : Prop := ∃ y, tget s.trains j = some y ∧ y.loop = some ld.loop
      let couples := s.mode ≠ .closed ∧ (∃ j ∈ home, serves j) ∧
        (back = true ∨ ∃ r other, tget s.loops ld.loop = some r ∧ r.slot = .staged other)
      let opens := s.mode = .pause ∧ back = false ∧ ∃ d ∈ ld.drops, ∃ c, tget s.calls d.call = some c ∧ c.cls = .expedite
      let goes := s.mode ≠ .closed ∧ s.departQ.head? = some i
      (¬ couples → ¬ opens → ¬ goes →
        tget t.trains i = some { x with state := .parked, load := none, coupledAt := none } ∧
        (∀ j, j ≠ i → tget t.trains j = tget s.trains j) ∧ t.homeQ = home ∧
        t.departQ = s.departQ.filter (· != i) ∧ t.chargeQ = s.chargeQ ∧ t.lastGo = s.lastGo) ∧
      (¬ couples → ¬ opens →
        (∀ j, j ≠ ld.loop → tget t.loops j = tget s.loops j) ∧
        (back = true → ∃ r, tget s.loops ld.loop = some r ∧
          tget t.loops ld.loop = some { r with slot := .staged { ld with
            drops := ld.drops.map fun d => { d with status := .pending } } } ∧
          ∀ d ∈ ld.drops, ∀ c, tget s.calls d.call = some c → c.state = .loaded → s.callIdsUnique →
            tget t.calls d.call = some { c with state := .planned }) ∧
        (back = false → t.loops = s.loops) ∧
        (back = false → s.callIdsUnique → (∀ d ∈ ld.drops, s.callIn d.call .loaded) →
          ∀ id c, tget s.calls id = some c → c.state = .loaded →
            t.returned id c (ld.drops.filter fun d => d.call == id).length)) ∧
      ∀ pre j post y r, couples → back = true → ¬ goes → home = pre ++ j :: post → (∀ k ∈ pre, ¬ serves k) →
        tget s.trains j = some y → y.loop = some ld.loop → tget s.loops ld.loop = some r →
        tget t.trains j = some { y with
          state := .coupling, coupledAt := some s.plantTime, lateRep := false, earlyRep := false
          load := some { ld with drops := ld.drops.map fun d =>
            { d with status := .pending, lateRep := false, orderRep := false } } } ∧
        j ∉ t.homeQ ∧
        (r.window ≠ .closeWait → t.homeQ = home.filter (· != j) ∧ tget t.loops ld.loop = some { r with slot := .empty } ∧
          ∀ d ∈ ld.drops, ∀ c, tget s.calls d.call = some c → c.state = .loaded → s.callIdsUnique → tget t.calls d.call = some c)

/-- CHARGE sends a PARKED train to a free charger, or to the tail of the charge queue; a freed charger goes to the head of it. A reply's
battery level below the start level does the same to a PARKED train, one at the end level ends charging, and one above 100 is not taken.
An UNPLACED train that comes home goes to the chargers or parks, without its hot orders; a parked, waiting or charging train away from
home is UNPLACED and in no queue. CHARGE answers an empty body (log entry 7). That a row whose condition fails does nothing is deduced:
log entry 17; that left home stays as it is outside a run is the model's choice: log entry 42; the order of the effects is the model's
choice: log entry 15. -/
def Obligations.ChargersGrantedInOrder : Prop :=
  (∀ (s : State) (i level : Nat) (x : Train), tsorted s.trains = true → tget s.trains i = some x →
    let t := s.takeBattery i level
    let x' : Train := { x with battery := some level }
    (100 < level → t = s) ∧
    (level ≤ 100 → x.state = .parked → level < s.fleet.startLevel → t.homeQ = s.homeQ.filter (· != i) ∧
      (s.chargingCount < s.fleet.chargers → tget t.trains i = some { x' with state := .charging } ∧ t.chargeQ = s.chargeQ) ∧
      (s.fleet.chargers ≤ s.chargingCount → tget t.trains i = some { x' with state := .chargeWait } ∧ t.chargeQ = s.chargeQ ++ [i])) ∧
    (level ≤ 100 → x.state = .charging → s.fleet.endLevel ≤ level → i ∉ s.chargeQ →
      (∃ y, tget t.trains i = some y ∧ y.battery = some level ∧ (y.state = .parked ∧ i ∈ t.homeQ ∨ y.state = .coupling)) ∧
      (s.mode = .closed → t.homeQ = s.homeQ ++ [i] ∧ (t.chargeQ = [] ∨ s.fleet.chargers ≤ t.chargingCount))) ∧
    (level ≤ 100 → ¬ (x.state = .parked ∧ level < s.fleet.startLevel) → ¬ (x.state = .charging ∧ s.fleet.endLevel ≤ level) →
      t = s.modTrain i fun y => { y with battery := some level })) ∧
  (∀ (s : State) (i : Nat) (x : Train), tsorted s.trains = true → tget s.trains i = some x → x.state = .unplaced → i ∉ s.homeQ →
    let t := s.takeLocation i .home
    ∃ y, tget t.trains i = some y ∧ y.location = .home ∧ y.hotBox = none ∧ y.shelf = [] ∧
      (∀ j, tget t.stocks j = (tget s.stocks j).map fun st => { st with
        h := st.h - ((x.hotBox.toList ++ x.shelf).map fun o => if o.slot = j then o.containers else 0).sum }) ∧
      (s.batteryLow x = true → y.state = (if s.chargingCount < s.fleet.chargers then .charging else .chargeWait) ∧
        t.homeQ = s.homeQ ∧ t.chargeQ = if s.chargingCount < s.fleet.chargers then s.chargeQ else s.chargeQ ++ [i]) ∧
      (s.batteryLow x = false → t.chargeQ = s.chargeQ ∧ (y.state = .parked ∧ i ∈ t.homeQ ∨ y.state = .coupling) ∧
        (s.mode = .closed → y.state = .parked ∧ t.homeQ = s.homeQ ++ [i]))) ∧
  (∀ (s : State) (i : Nat) (x : Train) (at_ : Location), tget s.trains i = some x →
    (x.state = .parked ∨ x.state = .chargeWait ∨ x.state = .charging) →
    let t := s.takeLocation i at_
    (at_ = .home ∨ at_ = .unknown → t = s.modTrain i fun y => { y with location := at_ }) ∧
    (at_ ≠ .home → at_ ≠ .unknown → tget t.trains i = some { x with state := .unplaced, location := at_ } ∧
      t.homeQ = s.homeQ.filter (· != i) ∧ i ∉ t.chargeQ ∧ (t.chargeQ = [] ∨ s.fleet.chargers ≤ t.chargingCount) ∧
      t.departQ = s.departQ ∧ t.slots = s.slots ∧ t.calls = s.calls ∧ t.loops = s.loops)) ∧
  (∀ (s : State) (tag : Byte) (i : Nat) (x : Train), i ≤ 7 → tget s.trains i = some x → x.state = .parked →
    ∃ t, exec (.charge tag (.ok i)) s = .next t ∧ t.homeQ = s.homeQ.filter (· != i) ∧
      (s.chargingCount < s.fleet.chargers → t.chargeQ = s.chargeQ ∧ tget t.trains i = some { x with state := .charging }) ∧
      (s.fleet.chargers ≤ s.chargingCount → t.chargeQ = s.chargeQ ++ [i] ∧ tget t.trains i = some { x with state := .chargeWait }) ∧
      (∀ j, j ≠ i → tget t.trains j = tget s.trains j) ∧ t.departQ = s.departQ ∧ t.lastGo = s.lastGo ∧ t.slots = s.slots ∧
      t.calls = s.calls ∧ t.loops = s.loops ∧ t.beyondTrains = (s.accepted 0x26#8 tag []).beyondTrains) ∧
  (∀ s : State, s.chargeQ = [] ∨ s.fleet.chargers ≤ s.chargingCount → exec .chargerGranted s = .next s) ∧
  ∀ (s : State) (i : Nat) (rest : List Nat), s.chargeQ = i :: rest → s.chargingCount < s.fleet.chargers →
    ∃ t n, exec .chargerGranted s = .next t ∧ t.chargeQ = s.chargeQ.drop (n + 1) ∧
      (∀ j, tget t.trains j = if j ∈ s.chargeQ.take (n + 1) then (tget s.trains j).map fun x => { x with state := .charging }
        else tget s.trains j) ∧
      (t.chargeQ = [] ∨ s.fleet.chargers ≤ t.chargingCount) ∧ t.homeQ = s.homeQ ∧ t.departQ = s.departQ ∧ t.lastGo = s.lastGo ∧
      t.slots = s.slots ∧ t.calls = s.calls ∧ t.loops = s.loops ∧ t.beyondTrains = s.beyondTrains

/-- SERVICE off takes a train out of its queue and its hot orders from it, and the containers reserved for them from H of their slots;
SERVICE on makes it UNPLACED away from home, and at home PARKED at the tail of the home queue, or COUPLING at once. The items of answers
and reports stand as log entry 7 says. -/
def Obligations.ServiceOffAndOn : Prop :=
  (∀ (s : State) (tag : Byte) (i : Nat) (x : Train), i ≤ 7 → tget s.trains i = some x → (x.state = .parked ∨ x.state = .chargeWait) →
    ∃ t x', exec (.serviceOff tag (.ok i)) s = .next t ∧ tget t.trains i = some x' ∧ x'.state = .outOfService ∧ x'.hotBox = none ∧
      x'.shelf = [] ∧ { x' with state := x.state, hotBox := x.hotBox, shelf := x.shelf, lastHot := x.lastHot } = x ∧
      (∀ j, j ≠ i → tget t.trains j = tget s.trains j) ∧ t.homeQ = s.homeQ.filter (· != i) ∧
      t.chargeQ = s.chargeQ.filter (· != i) ∧ t.departQ = s.departQ ∧ t.lastGo = s.lastGo ∧ t.loops = s.loops ∧
      (x.hotBox = none → x.shelf = [] → t.slots = s.slots ∧ t.calls = s.calls ∧ x' = { x with state := .outOfService }) ∧
      (∀ j, tget t.stocks j = (tget s.stocks j).map fun st => { st with
        h := st.h - ((x.hotBox.toList ++ x.shelf).map fun o => if o.slot = j then o.containers else 0).sum }) ∧
      t.beyondTrains = (s.accepted 0x27#8 tag [.small (some i), .code (some 10)]).beyondTrains) ∧
  ∀ (s : State) (tag : Byte) (i : Nat) (x : Train), i ≤ 7 → tget s.trains i = some x → x.state = .outOfService →
    (x.location ≠ .home → exec (.serviceOn tag (.ok i)) s =
      .next ((s.modTrain i fun y => { y with state := .unplaced }).accepted 0x27#8 tag [.small (some i), .code (some 0)])) ∧
    (x.location = .home → (s.mode = .closed ∨ x.loop = none) → exec (.serviceOn tag (.ok i)) s =
      .next ({ s.modTrain i fun y => { y with state := .parked } with homeQ := s.homeQ ++ [i] }.accepted 0x27#8 tag
        [.small (some i), .code (some 1)])) ∧
    (x.location = .home → ∃ t x', exec (.serviceOn tag (.ok i)) s = .next t ∧ tget t.trains i = some x' ∧
      (x'.state = .parked ∧ i ∈ t.homeQ ∨ x'.state = .coupling) ∧ t.stocks = s.stocks)

/-- DISMISS ends a run wherever the train is: UNPLACED, no load, no place, no hot orders, not in the departure queue and in no zone. Its
hot orders are taken from H of their slots; the containers not dropped go back to their calls, which are OPEN again or merged into the
OPEN call of their class, where every drop not DROPPED names a LOADED call, as an invariant has it: CallIdsStayUnique (the order is the
model's choice: log entry 31; in PAUSE a returned EXPEDITE call may be planned at once). The items of answers and reports stand as log
entry 7 says. -/
def Obligations.DismissEndsTheRun : Prop :=
  ∀ (s : State) (tag : Byte) (i : Nat) (x : Train), i ≤ 7 → tget s.trains i = some x →
    (x.state = .ready ∨ x.state = .onRun ∨ x.state = .atStop ∨ x.state = .holding ∨ x.state = .returning) →
    ∃ t x', exec (.dismiss tag (.ok i)) s = .next t ∧ tget t.trains i = some x' ∧ x'.state = .unplaced ∧ x'.load = none ∧
      x'.place = none ∧ x'.leg = none ∧ x'.coupledAt = none ∧ x'.hotBox = none ∧ x'.shelf = [] ∧ x'.wish = ⟨none, none⟩ ∧
      x'.loop = x.loop ∧ x'.noteBox = x.noteBox ∧ x'.lastNote = x.lastNote ∧ x'.lastNoteNo = x.lastNoteNo ∧ x'.battery = x.battery ∧
      x'.location = x.location ∧ i ∉ t.departQ ∧
      (∀ e ∈ t.zones, e.2.holds i = false ∧ e.2.waits i = false ∧ i ∉ e.2.intruders) ∧
      t.beyondZones = (s.accepted 0x28#8 tag [.small (some i), .half (x.load.map Load.id),
        .small (some (x.drops.filter fun d => d.status != .dropped).length)]).beyondZones ∧
      (∀ j, tget t.stocks j = (tget s.stocks j).map fun st => { st with
        h := st.h - ((x.hotBox.toList ++ x.shelf).map fun o => if o.slot = j then o.containers else 0).sum }) ∧
      (s.mode ≠ .pause → s.callIdsUnique → (∀ d ∈ x.aboard, s.callIn d.call .loaded) →
        ∀ id c, tget s.calls id = some c → c.state = .loaded →
          t.returned id c (x.aboard.filter fun d => d.call == id).length)

/-- HOTCALL is judged by its table; a refused one leaves everything as it was. -/
def Obligations.HotcallJudgedInOrder : Prop :=
  ∀ (s : State) (tag : Byte),
    exec (.hotcall tag .malformed) s = .next (s.refusedWith 0x29#8 tag .format) ∧
    ∀ a : HotArgs,
      let inRange := a.train ≤ 7 ∧ a.slot ≤ 383 ∧ 1 ≤ a.count ∧ a.count ≤ 2
      (¬ inRange → exec (.hotcall tag (.ok a)) s = .next (s.refusedWith 0x29#8 tag .range)) ∧
      (inRange → tget s.trains a.train = none ∨ tget s.slots a.slot = none →
        exec (.hotcall tag (.ok a)) s = .next (s.refusedWith 0x29#8 tag .undefined)) ∧
      ∀ x sl, inRange → tget s.trains a.train = some x → tget s.slots a.slot = some sl →
        let busy := x.state = .coupling ∨ x.state = .charging
        let wrong := x.state = .unplaced ∨ x.state = .outOfService ∨ sl.dfn.kind = .seq
        (busy → exec (.hotcall tag (.ok a)) s = .next (s.refusedWith 0x29#8 tag .busy)) ∧
        (¬ busy → wrong → exec (.hotcall tag (.ok a)) s = .next (s.refusedWith 0x29#8 tag .state)) ∧
        (¬ busy → ¬ wrong → x.hotBox.isSome → exec (.hotcall tag (.ok a)) s = .next (s.refusedWith 0x29#8 tag .boxFull)) ∧
        (¬ busy → ¬ wrong → x.hotBox = none → 2 ≤ x.shelf.length →
          exec (.hotcall tag (.ok a)) s = .next (s.refusedWith 0x29#8 tag .shelfFull)) ∧
        (¬ busy → ¬ wrong → x.hotBox = none → x.shelf.length < 2 → s.room a.slot sl < a.count →
          exec (.hotcall tag (.ok a)) s = .next (s.refusedWith 0x29#8 tag .noRoom)) ∧
        (¬ busy → ¬ wrong → x.hotBox = none → x.shelf.length < 2 → (a.count : Int) ≤ s.room a.slot sl →
          ∃ t body, exec (.hotcall tag (.ok a)) s = .next t ∧ t.sent = s.sent ++ [.reply ⟨0x29#8, tag, .accept body⟩])

/-- HOTCALL puts an order with a free hot id into the box and reserves its containers at the slot. A reply that takes the order moves it to
the shelf; one that delivers it takes it from there, gives the slot its containers of Q pieces, P×Q at most, and frees the reservation.
An id the train does not hold changes nothing. The items of answers and reports stand as log entry 7 says. -/
def Obligations.HotcallFillsTheBox : Prop :=
  (∀ (s : State) (i id : Nat) (x : Train), tget s.trains i = some x →
    ((∀ h, x.hotBox = some h → id = 0 ∨ h.id ≠ id) → s.hotTaken i id = s) ∧
    (∀ h, x.hotBox = some h → id ≠ 0 → h.id = id →
      let h' : Hot := { h with takenAt := some s.plantTime, place := .shelf }
      let t := s.hotTaken i id
      tget t.trains i = some { x with hotBox := none, shelf := x.shelf ++ [h'], lastHot := some ⟨h', s.plantTime, .taken⟩ } ∧
        (∀ j, j ≠ i → tget t.trains j = tget s.trains j) ∧ t.beyondReports = { s with trains := t.trains }.beyondReports ∧
        s.hotDone i id = t.hotDone i id) ∧
    ((∀ h, x.hotBox = some h → id = 0 ∨ h.id ≠ id) →
      (x.shelf.find? (fun h => h.id == id) = none → s.hotDone i id = s) ∧
      ∀ h, x.shelf.find? (fun h => h.id == id) = some h →
        let t := s.hotDone i id
        tget t.trains i = some { x with shelf := x.shelf.filter fun y => y.id != id } ∧
          (∀ j, j ≠ i → tget t.trains j = tget s.trains j) ∧
          (∀ j, tget t.stocks j = if j = h.slot then (tget s.stocks j).map fun st =>
              let f := min (st.dfn.p * st.dfn.q) (st.f + h.containers * st.dfn.q)
              { st with f := f, h := st.h - h.containers, starved := st.starved && f == 0 }
            else tget s.stocks j) ∧
          t.beyondSlots = { s with trains := t.trains }.beyondSlots)) ∧
  ∀ (s : State) (tag : Byte) (a : HotArgs) (x : Train) (sl : Slot), a.train ≤ 7 → a.slot ≤ 383 → 1 ≤ a.count → a.count ≤ 2 →
    tget s.trains a.train = some x → tget s.slots a.slot = some sl → sl.dfn.kind = .bulk →
    x.state ≠ .coupling → x.state ≠ .charging → x.state ≠ .unplaced → x.state ≠ .outOfService → x.hotBox = none →
    x.shelf.length < 2 → (a.count : Int) ≤ s.room a.slot sl →
    ∃ t id, exec (.hotcall tag (.ok a)) s = .next t ∧
      t.trains = tmod s.trains a.train (fun y => { y with hotBox := some ⟨id, a.slot, a.count, sl.dfn.q, s.plantTime, none, .box⟩ }) ∧
      (∀ j, tget t.stocks j = if j = a.slot then some { sl.stock with h := sl.h + a.count } else tget s.stocks j) ∧
      (s.hotIds.length < 255 → id ∉ s.hotIds) ∧ t.nextHot = (if id < 255 then id + 1 else 1) ∧
      t.beyondSlots = ({ s with trains := t.trains, nextHot := t.nextHot }.accepted 0x29#8 tag
        [.small (some a.train), .small (some id), .half (some a.slot), .small (some a.count)]).beyondSlots

/-- NOTE_READ hands out the note in the box, empties it and keeps the note as the last one; with the box empty it changes nothing and
answers the last note, or none. A reply's note with a new number goes into an empty box that the poll had shown empty; one with a code
outside 1 to 5 only leaves its number. The couple limit is reported once. The codes of the NOTE events, the place of the event in the
report and the slot of a MALFORMED note are the model's choice: log entry 38. That a row whose condition fails does nothing is deduced:
log entry 17. The items of answers and reports stand as log entry 7 says. -/
def Obligations.NotesReadAndLimitsReported : Prop :=
  (∀ (s : State) (tag : Byte) (i : Nat) (x : Train) (n : Note), i ≤ 7 → tget s.trains i = some x → x.noteBox = some n →
    exec (.noteRead tag (.ok i)) s = .next ((s.modTrain i fun y => { y with noteBox := none, lastNote := some ⟨n, s.plantTime⟩ }).accepted
      0x2A#8 tag [.yesNo (some true), .small (some n.number), .code (some n.code), .half n.slot, .time (some n.takenAt),
        .time (some s.plantTime)])) ∧
  (∀ (s : State) (tag : Byte) (i : Nat) (x : Train), i ≤ 7 → tget s.trains i = some x → x.noteBox = none →
    exec (.noteRead tag (.ok i)) s = .next (s.accepted 0x2A#8 tag (.yesNo (some false) :: match x.lastNote with
      | some m => [.small (some m.note.number), .code (some m.note.code), .half m.note.slot, .time (some m.note.takenAt),
          .time (some m.readAt)]
      | none => [.small none, .code none, .half none, .time none, .time none]))) ∧
  (∀ (s : State) (i number code slot : Nat) (shown : Bool) (x after : Train), tget s.trains i = some x →
    let t := s.takeNote i number code slot shown after
    let at_ : Option Nat := if slot ≤ 383 then some slot else none
    let new := number ≠ 0 ∧ x.lastNoteNo ≠ some number ∧ x.noteBox = none ∧ shown = false
    (¬ new → t = s) ∧
    (new → 1 ≤ code → code ≤ 5 → t = (s.modTrain i fun y => { y with
      noteBox := some ⟨number, code, at_, s.plantTime⟩, lastNoteNo := some number }).reportNote i 0 number code at_ after) ∧
    (new → ¬ (1 ≤ code ∧ code ≤ 5) →
      t = (s.modTrain i fun y => { y with lastNoteNo := some number }).reportNote i 1 number code at_ after)) ∧
  ∀ (s : State) (i : Nat) (x : Train) (ld : Load) (c : Nat), tget s.trains i = some x → x.load = some ld → x.coupledAt = some c →
    (x.state = .coupling → x.lateRep = false → c + s.fleet.coupleLimit * 10 ≤ s.plantTime → exec (.coupleLimit i) s =
      .next ((s.modTrain i fun y => { y with lateRep := true }).reportCouple i .coupling 2 ld none)) ∧
    (x.state ≠ .coupling ∨ x.lateRep = true ∨ s.plantTime < c + s.fleet.coupleLimit * 10 → exec (.coupleLimit i) s = .next s)

/-! ## Zones -/

/-- ZONE_DEF gives a zone its capacity and entry window and keeps its occupants, queue, history and marks, then evaluates it; with
defined = no it removes the zone. Either way the wishes that name the zone are cleared, but for trains in its queue. The limits
form sets both limits, and leaves no wait past the one without its stall mark and no grant of an ALIVE train past the other. The
orders inside are the model's choice: log entry 20. The items of answers and reports stand as log entry 7 says. -/
def Obligations.ZoneDefinitionsTaken : Prop :=
  (∀ (s : State) (tag : Byte) (zone : Nat) (d : ZoneDefn), zone ≤ 15 → zoneDefnInRange d = true → s.store = .idle →
    (∀ z, tget s.zones zone = some z → z.occupants.length ≤ d.capacity) →
    let z' := (match tget s.zones zone with | none => freshZone d | some z => { z with dfn := d }).evaluate s.plantTime
    ∃ t, exec (.zoneDef tag (.ok ⟨zone, some d⟩)) s = .next t ∧ tget t.zones zone = some z' ∧
      (∀ j, j ≠ zone → tget t.zones j = tget s.zones j) ∧
      (∀ i, tget t.trains i = (tget s.trains i).map fun x =>
        if x.wish.zone = some zone ∧ z'.waits i = false then { x with wish := ⟨none, none⟩ } else x) ∧
      t = { s with zones := t.zones, trains := t.trains }.accepted 0x30#8 tag
        [.small (some zone), .yesNo (some true), .small (some z'.occupants.length), .small (some z'.queue.length)]) ∧
  (∀ (s : State) (tag : Byte) (zone : Nat), zone ≤ 15 → s.store = .idle →
    (∀ z, tget s.zones zone = some z → z.occupants = [] ∧ z.queue = []) →
    ∃ t, exec (.zoneDef tag (.ok ⟨zone, none⟩)) s = .next t ∧ t.zones = tdel s.zones zone ∧
      (∀ i, tget t.trains i = (tget s.trains i).map fun x => if x.wish.zone = some zone then { x with wish := ⟨none, none⟩ } else x) ∧
      t = { s with zones := t.zones, trains := t.trains }.accepted 0x30#8 tag
        [.small (some zone), .yesNo (some false), .small none, .small none]) ∧
  ∀ (s : State) (tag : Byte) (a : ZoneLimitsArgs), 10 ≤ a.gateLimit → a.gateLimit ≤ 600 → 5 ≤ a.grantLimit → a.grantLimit ≤ 120 →
    s.store = .idle → tsorted s.zones = true →
    ∃ t, exec (.zoneLimits tag (.ok a)) s = .next t ∧
      (∀ e ∈ t.zones, ∀ w ∈ e.2.queue, w.joinedAt + a.gateLimit * 10 ≤ s.plantTime → w.stalled = true) ∧
      (∀ e ∈ t.zones, ∀ o ∈ e.2.occupants, o.inside = false → s.trainAlive o.train = true →
        s.plantTime < o.grantedAt + a.grantLimit * 10) ∧
      t.beyondReports = ({ s with
        gateLimit := a.gateLimit, grantLimit := a.grantLimit, zones := t.zones, trains := t.trains }.accepted 0x30#8 tag
          [.duration a.gateLimit, .duration a.grantLimit]).beyondReports

/-- An evaluation grants the queue from its head, each grant in its turn allowed by the capacity and the entry window and written into the
history, until the queue is empty or its head may not be granted. ZONE_CLEAR, a lapse and a grant that ages out evaluate their zone; a
lapse waits for the train's link, a stall is reported once. A gate wanted, where it or the current leg is new, takes the train out of
every other queue and puts it into that of the zone, where the leg has its gate; zones held confirm a grant and, left out, release an
occupant. The count in the answer of ZONE_CLEAR, and that a row whose condition fails does nothing, are the model's: log entries 20 and
17; so is the item that carries a position in a ZONE report: log entry 38. The items of answers and reports stand as log entry 7 says. -/
def Obligations.ZonesServedInOrder : Prop :=
  (∀ (z : Zone) (now : Nat),
    let granted (k : Nat) : Zone := { z with
      queue := z.queue.drop k
      occupants := z.occupants ++ (z.queue.take k).map fun w => ⟨w.train, false, now, none⟩
      history := (List.replicate k now).foldl pushHistory z.history
      intruders := z.intruders.filter fun i => (z.queue.take k).all fun w => i != w.train }
    (z.mayGrant now = true ↔ z.occupants.length < z.dfn.capacity ∧
      (z.dfn.count = 0 ∨ (z.history.filter fun g => decide (now < g + z.dfn.span * 10)).length < z.dfn.count)) ∧
    ∃ k, k ≤ z.queue.length ∧ z.evaluate now = granted k ∧ (∀ j, j < k → (granted j).mayGrant now = true) ∧
      (k = z.queue.length ∨ (granted k).mayGrant now = false)) ∧
  (∀ (s : State) (i : Nat) (x : Train) (wanted : Option Nat), tget s.trains i = some x → tsorted s.zones = true →
    let t := s.gateWanted i wanted
    (x.wish = ⟨wanted, x.leg⟩ → t = s) ∧
    (x.wish ≠ ⟨wanted, x.leg⟩ → tget t.trains i = some { x with wish := ⟨wanted, x.leg⟩ } ∧
      (∀ j, j ≠ i → tget t.trains j = tget s.trains j) ∧
      t.beyondReports = { s with trains := t.trains, zones := t.zones }.beyondReports ∧
      (∀ j z, wanted ≠ some j → tget s.zones j = some z → tget t.zones j = some (if z.waits i then
        ({ z with queue := z.queue.filter fun w => w.train != i } : Zone).evaluate s.plantTime else z)) ∧
      ∀ j, wanted = some j →
        let gate := ∃ k l r g, x.leg = some k ∧ x.loop = some l ∧ tget s.loops l = some r ∧ r.dfn.gates[k]? = some g ∧ j ∈ g
        let wrong := t.hasReport .zone
          [.code (some 3), .small (some j), .small (some i), .small x.leg, .time none, .small none, .count 0, .small none, .time none,
            .code (some (if x.leg = none then 0 else if tget s.zones j = none then 1 else 2)),
            .yesNo (some (s.zones.any fun e => e.2.waits i))]
        (tget s.zones j = none → wrong ∧ tget t.zones j = none) ∧
        ∀ z, tget s.zones j = some z →
          (z.holds i = true → tget t.zones j = some z) ∧
          (z.holds i = false → gate → tget t.zones j = some (if z.waits i then z else
            ({ z with queue := z.queue ++ [⟨i, s.plantTime, false⟩] } : Zone).evaluate s.plantTime)) ∧
          (z.holds i = false → ¬ gate → wrong ∧ tget t.zones j = some (if z.waits i then
            ({ z with queue := z.queue.filter fun w => w.train != i } : Zone).evaluate s.plantTime else z)))) ∧
  (∀ (s : State) (i : Nat) (held : List Nat), tsorted s.zones = true → ∀ j z, tget s.zones j = some z →
    let t := s.zonesHeld i held
    (∀ o, z.occupants.find? (fun o => o.train == i) = some o →
      (o.inside = true → j ∈ held → tget t.zones j = some z) ∧
      (o.inside = true → j ∉ held →
        tget t.zones j = some ({ z with occupants := z.occupants.filter fun o => o.train != i }.evaluate s.plantTime)) ∧
      (o.inside = false → j ∈ held → tget t.zones j = some { z with occupants := z.occupants.map fun o =>
        if o.train = i then { o with inside := true, confirmedAt := some s.plantTime } else o }) ∧
      (o.inside = false → j ∉ held → tget t.zones j = some z)) ∧
    (z.holds i = false → ∃ z', tget t.zones j = some z' ∧ { z' with intruders := z.intruders } = z ∧
      ∀ n, n ∈ z'.intruders ↔ if n = i then j ∈ held else n ∈ z.intruders)) ∧
  (∀ (s : State) (i : Nat), exec (.zoneGrant i) s = .next { s with zones := tmod s.zones i fun z => z.evaluate s.plantTime }) ∧
  (∀ (s : State) (i : Nat) (z : Zone), tget s.zones i = some z →
    (0 < z.dfn.count → z.queue ≠ [] →
      exec (.grantAgeOut i) s = .next { s with zones := tmod s.zones i fun z => z.evaluate s.plantTime }) ∧
    (z.dfn.count = 0 ∨ z.queue = [] → exec (.grantAgeOut i) s = .next s)) ∧
  (∀ (s : State) (tag : Byte) (zone i : Nat) (z : Zone) (o : Occupant), zone ≤ 15 → i ≤ 7 → tget s.zones zone = some z →
    z.occupants.find? (fun x => x.train == i) = some o →
    let z' := { z with occupants := z.occupants.filter fun x => x.train != i }.evaluate s.plantTime
    ∃ t, exec (.zoneClear tag (.ok ⟨zone, i⟩)) s = .next t ∧ tget t.zones zone = some z' ∧
      (∀ j, j ≠ zone → tget t.zones j = tget s.zones j) ∧
      t.trains = tmod s.trains i (fun x => if x.wish.zone = some zone then { x with wish := ⟨none, none⟩ } else x) ∧
      t = { s with zones := t.zones, trains := t.trains }.accepted 0x31#8 tag
        [.small (some zone), .small (some i), .code (some (if o.inside then 1 else 0)), .small (some z'.occupants.length)]) ∧
  (∀ (s : State) (zone i : Nat) (z : Zone), tget s.zones zone = some z →
    let due := ∃ o ∈ z.occupants, o.train = i ∧ o.inside = false ∧ o.grantedAt + s.grantLimit * 10 ≤ s.plantTime
    (due → s.trainAlive i = true → ∃ t, exec (.grantLapse zone i) s = .next t ∧
      tget t.zones zone = some ({ z with occupants := z.occupants.filter fun x => x.train != i }.evaluate s.plantTime) ∧
      (∀ j, j ≠ zone → tget t.zones j = tget s.zones j) ∧
      t.trains = tmod s.trains i (fun x => if x.wish.zone = some zone then { x with wish := ⟨none, none⟩ } else x) ∧
      t.beyondReports = { s with zones := t.zones, trains := t.trains }.beyondReports) ∧
    (¬ due ∨ s.trainAlive i = false → exec (.grantLapse zone i) s = .next s)) ∧
  ∀ (s : State) (zone i : Nat) (z : Zone), tget s.zones zone = some z →
    let due := ∃ w ∈ z.queue, w.train = i ∧ w.stalled = false ∧ w.joinedAt + s.gateLimit * 10 ≤ s.plantTime
    (due → ∃ t, exec (.gateStall zone i) s = .next t ∧
      tget t.zones zone = some { z with queue := z.queue.map fun w => if w.train = i then { w with stalled := true } else w } ∧
      (∀ j, j ≠ zone → tget t.zones j = tget s.zones j) ∧ t.beyondReports = { s with zones := t.zones }.beyondReports) ∧
    (¬ due → exec (.gateStall zone i) s = .next s)

/-! ## Field links -/

/-- An exchange begins with a poll of the next terminal by address, once the one before has ended and the interval has passed. A miss ends
it; the third in a row makes an ALIVE terminal LOST, and unsets the baselines of a rack. Bytes outside an exchange are discarded, and a
frame of them with a bad check is counted. That a row whose event does not occur does nothing is deduced: log entry 17. That the first
exchange after a restart waits for no interval, and that a frame of which the reception began before a restart is no exception, are the
model's choice: log entries 40 and 22. -/
def Obligations.ExchangesBeginAndMiss : Prop :=
  (∀ (s : State) (l : Link) (a : Nat),
    let f := s.link l
    (f.exchange = none → (∀ ms, f.sincePoll = some ms → f.interval ≤ ms) → f.nextAddress = some a →
      exec (.pollExchange l) s = .next { s.setLink l { f with
        terminals := tmod f.terminals a fun x => { x with boxShown := s.pollShowsBox l a }
        lastAddr := some a, exchange := some a, sincePoll := some 0, pollShown := s.pollShowsBox l a } with
          sent := s.sent ++ [.poll l a (s.pollBody l a)] }) ∧
    (f.exchange.isSome ∨ (∃ ms, f.sincePoll = some ms ∧ ms < f.interval) ∨ f.terminals = [] →
      exec (.pollExchange l) s = .next s) ∧
    (tsorted f.terminals = true → f.nextAddress = some a → a ∈ tkeys f.terminals ∧
      ((∃ b ∈ tkeys f.terminals, ∃ p, f.lastAddr = some p ∧ p < b) →
        ∃ p, f.lastAddr = some p ∧ p < a ∧ ∀ b ∈ tkeys f.terminals, p < b → a ≤ b) ∧
      ((∀ b ∈ tkeys f.terminals, ∀ p, f.lastAddr = some p → b ≤ p) → ∀ b ∈ tkeys f.terminals, a ≤ b))) ∧
  (∀ (s : State) (l : Link) (c : Instr) (counted : Bool),
    (c = .replyTimeout l ∧ counted = false ∨ c = .replyGap l ∧ counted = true ∨ c = .fieldReplyBad l ∧ counted = true) →
    ((s.link l).exchange = none → exec c s = .next s) ∧
    ∀ a x, (s.link l).exchange = some a → tget (s.link l).terminals a = some x →
      let lost := x.alive && decide (3 ≤ x.misses + 1)
      ∃ t, exec c s = .next t ∧ (t.link l).exchange = none ∧
        (t.link l).errors = (if counted then min 65535 ((s.link l).errors + 1) else (s.link l).errors) ∧
        tget (t.link l).terminals a = some (if lost then { x with alive := false, misses := 0 }
          else if x.alive then { x with misses := x.misses + 1 } else x) ∧
        (∀ b, b ≠ a → tget (t.link l).terminals b = tget (s.link l).terminals b) ∧
        (∀ m, m ≠ l → t.link m = s.link m) ∧
        t.slots = (if lost && l == .rack then (s.unsetBaselines (a - 0x40)).slots else s.slots) ∧
        t.beyondReports = { s with trainLink := t.trainLink, rackLink := t.rackLink, slots := t.slots }.beyondReports) ∧
  ∀ (s : State) (l : Link) (bs : List Byte),
    ((s.link l).exchange.isSome → exec (.strayFieldFrame l bs) s = .next s) ∧
    ((s.link l).exchange = none → (∀ a k g b, readFrame bs ≠ .frame false a k g b) → exec (.strayFieldFrame l bs) s = .next s) ∧
    ∀ a k g b, (s.link l).exchange = none → readFrame bs = .frame false a k g b →
      exec (.strayFieldFrame l bs) s = .next (s.setLink l { s.link l with errors := min 65535 ((s.link l).errors + 1) })

/-- A good train reply ends the exchange, makes the terminal ALIVE, and leaves the train with the location and the battery level of the
reply. Its items are taken in their order: coupled flag, done set, hot items, location, gate wanted, zones held, note, battery, lapses;
the note is judged by the flag of the poll answered. A done flag drops its container into the slot, and off its call, which goes with the
last one. A location ahead ends the stops before it, marks the drops of the stop it reaches, sends the train past its last stop RETURNING,
or takes it home, where its CARRIED containers go back to their calls, each drop not DROPPED naming a LOADED one, as an invariant has it
(CallIdsStayUnique). Anything else that answers the poll is a miss. When the GO test of a train coupled by the reply is made is the
model's choice (log entry 37), as are the order of the tests of a done flag (log entry 19) and the recomputations between stops that end
together (log entry 36). What bytes without a start mark are is deduced: log entry 22. What the LINK report of a terminal that turns ALIVE
carries, and what a NOTE report carries, are the model's choice: log entries 39 and 38. -/
def Obligations.TrainRepliesTaken : Prop :=
  (∀ (s : State) (i : Nat) (x : Terminal) (tr : Train) (body : List Byte) (r : TrainReport), i ≤ 7 →
    s.trainLink.exchange = some (trainAddress i) → tget s.trainLink.terminals (trainAddress i) = some x → tget s.trains i = some tr →
    readTrainReport body = some r →
    let u := (s.goodReply .train (trainAddress i) x).replyItems i r
    ∃ t tr' after, exec (.trainReply (frameBytes (byte (trainAddress i)) 0xC1#8 0 body)) s = .next t ∧ t.trainLink.exchange = none ∧
      tget t.trainLink.terminals (trainAddress i) = some { x with alive := true, misses := 0, lastGood := some s.plantTime } ∧
      t.trainLink.errors = s.trainLink.errors ∧ tget t.trains i = some tr' ∧ tr'.location = r.location ∧ tr'.loop = tr.loop ∧
      tr'.battery = (if r.battery ≤ 100 then some r.battery else tr.battery) ∧
      t.beyondZones = { s with trainLink := t.trainLink }.beyondZones ∧
      tget (u.replyEnd i r (!x.alive)).trains i = some after ∧
      t = (u.takeNote i r.noteNumber r.noteCode r.noteSlot s.trainLink.pollShown after).replyEnd i r (!x.alive)) ∧
  (∀ (s : State) (i : Nat) (r : TrainReport),
    let go (u : State) : State := if s.departQ = [] then u.goTest else u
    let hand (u : State) : State := r.delivered.foldl (fun u id => u.hotDone i id) ((u.doneSet i r.load r.done).hotTaken i r.taken)
    let s1 := s.coupledFlag i r.load r.coupled
    let moved : State :=
      if s.queuesBy i r = false then (hand s1).takeLocation i r.location
      else match r.location with
        | .leg _ | .stop _ => go ((hand s1).takeLocation i r.location)
        | .home | .unknown => (hand (go s1)).takeLocation i r.location
    s.replyItems i r = (moved.gateWanted i r.gate).zonesHeld i r.held ∧
    (∀ returned, s.replyEnd i r returned = if returned then
      (tkeys s.zones).foldl (fun u z => u.lapseIfDue z i) (s.takeBattery i r.battery) else s.takeBattery i r.battery) ∧
    ∀ x, tget s.trains i = some x → s.doneSet i r.load r.done =
      if (x.state = .onRun ∨ x.state = .atStop ∨ x.state = .holding ∨ x.state = .returning) ∧ x.load.map Load.id = some r.load then
        r.done.foldl (fun u k => u.doneFlag i k) s else s) ∧
  (∀ (s : State) (i k : Nat) (x : Train) (ld : Load) (d : Drop), s.callIdsUnique → tget s.trains i = some x → x.load = some ld →
    ld.drops.find? (fun e => e.index == k) = some d →
    let t := s.doneFlag i k
    let before := ld.drops.filter fun e => e.slot == d.slot && decide (e.index < d.index) && e.status != .dropped &&
      (match tget s.calls d.call with | some c => c.cls == .seq | none => false)
    (d.status = .dropped ∨ d.status = .void → t = s) ∧
    (d.status = .carried → t = if d.lateRep then s else
      (s.modDrop i k fun e => { e with lateRep := true }).reportDrop i x.state 1 ld.id d none) ∧
    (d.status.waits = true → (∃ e ∈ before, e.status.waits = true) → t = s) ∧
    (d.status.waits = true → (∀ e ∈ before, e.status.waits = false) → before ≠ [] → t = if d.orderRep then s else
      (s.modDrop i k fun e => { e with orderRep := true }).reportDrop i x.state 2 ld.id d none) ∧
    (d.status.waits = true → before = [] →
      let drops := ld.drops.map fun e => if e.index = k then { e with status := .dropped } else e
      let lastDone := x.state = .atStop ∧ s.holdsAtEnd x = true ∧ x.place = some (.stop (s.stopsOf x - 1)) ∧ 0 < s.stopsOf x ∧
        ∀ e ∈ drops, e.stop = s.stopsOf x - 1 → e.status = .dropped
      (∃ y, tget t.trains i = some { y with load := some { ld with drops := drops } } ∧
        (lastDone → y = { x with state := if s.mode = .closed then .returning else .holding }) ∧ (¬ lastDone → y = x)) ∧
      (∀ j, j ≠ i → tget t.trains j = tget s.trains j) ∧ t.beyondSlots = { s with trains := t.trains }.beyondSlots ∧
      (∀ j, tget t.stocks j = if j = d.slot then (tget s.stocks j).map fun st =>
          let f := min (st.dfn.p * st.dfn.q) (st.f + d.pieces)
          { st with f := f, starved := st.starved && f == 0 }
        else tget s.stocks j) ∧
      ∀ c, tget s.calls d.call = some c → c.state = .loaded →
        (1 < c.containers → tget t.calls d.call = some { c with containers := c.containers - 1, dropped := c.dropped + 1 }) ∧
        (c.containers ≤ 1 → ∀ c', tget t.calls d.call = some c' → c'.state = .opn ∧ c'.raisedAt = s.plantTime) ∧
        (1 ≤ c.containers → t.containersIn c.slot .loaded + 1 = s.containersIn c.slot .loaded))) ∧
  (∀ (s : State) (k j : Nat) (ds : List Drop) (d : Drop), ds[j]? = some d →
    let ms := s.markDrops k ds []
    let ahead := ((ds.zip ms).take j).filter fun e =>
      e.1.stop == k && e.1.status == .pending && e.2.status == .go && e.1.slot == d.slot
    ms.length = ds.length ∧ ms[j]? = some (if d.stop = k ∧ d.status = .pending then
      { d with status := match tget s.slots d.slot with
        | some sl => if ceilDiv sl.f sl.dfn.q + ahead.length < sl.dfn.p then .go else .hold
        | none => .hold } else d)) ∧
  (∀ (s : State) (i j : Nat) (x : Train) (ld : Load) (at_ : Location), s.callIdsUnique → tget s.trains i = some x → x.load = some ld →
    (x.state = .onRun ∧ x.place = some (.leg j) ∨ x.state = .atStop ∧ x.place = some (.stop j)) →
    let t := s.takeLocation i at_
    let n := s.stopsOf x
    let ended (k : Nat) : List Drop := ld.drops.map fun e =>
      if j ≤ e.stop ∧ e.stop < k ∧ e.status.waits = true then { e with status := .carried } else e
    let frame := t.stocks = s.stocks ∧ (∀ j, j ≠ i → tget t.trains j = tget s.trains j) ∧
      t.beyondSlots = { s with trains := t.trains }.beyondSlots
    (x.ahead n at_ = false → at_ ≠ .unknown → frame ∧ t.slots = s.slots ∧ t.calls = s.calls ∧
      tget t.trains i = some { x with location := at_, leftHome := x.leftHome || at_.away }) ∧
    (at_ = .home → x.leftHome = false → t = s.modTrain i fun y => { y with location := .home }) ∧
    (∀ k, at_ = .stop k → x.ahead n at_ = true → frame ∧
      let drops := s.markDrops k (ended k) []
      tget t.trains i = some { x with
        location := at_, leftHome := true, place := some (.stop k), leg := some (k + 1), load := some { ld with drops := drops }
        state := if s.holdsAtEnd x ∧ k + 1 = n ∧ ∀ e ∈ drops, e.stop = k → e.status = .dropped then
          (if s.mode = .closed then .returning else .holding) else .atStop }) ∧
    ∀ k, at_ = .leg k → x.ahead n at_ = true → frame ∧ tget t.trains i = some { x with
      location := at_, leftHome := true, place := some (.leg k), leg := some k, load := some { ld with drops := ended k }
      state := if k < n then .onRun else .returning }) ∧
  (∀ (s : State) (i : Nat) (x : Train), tsorted s.trains = true → tget s.trains i = some x → x.place.isSome → i ∉ s.homeQ →
    (x.state = .onRun ∧ x.leftHome = true ∨ x.state = .atStop ∧ x.leftHome = true ∨ x.state = .holding ∨ x.state = .returning) →
    (∀ p, x.place = some p → p.rank < 2 * s.stopsOf x + 1) →
    let t := s.takeLocation i .home
    ∃ y, tget t.trains i = some y ∧ y.location = .home ∧ y.hotBox = none ∧ y.shelf = [] ∧ y.place = none ∧ y.leg = none ∧
      (y.state ≠ .coupling → y.load = none ∧ y.coupledAt = none) ∧
      (∀ j, tget t.stocks j = (tget s.stocks j).map fun st => { st with
        h := st.h - ((x.hotBox.toList ++ x.shelf).map fun o => if o.slot = j then o.containers else 0).sum }) ∧
      (s.batteryLow x = true → y.state = (if s.chargingCount < s.fleet.chargers then .charging else .chargeWait)) ∧
      (s.batteryLow x = false → y.state = .parked ∧ i ∈ t.homeQ ∨ y.state = .coupling) ∧
      (s.mode = .closed ∨
          (s.mode = .run ∨ ∀ d ∈ x.drops, ∀ c, tget s.calls d.call = some c → c.cls ≠ .expedite) ∧
            (s.batteryLow x = true ∨ ∀ l r ld, x.loop = some l → tget s.loops l = some r → r.slot = .staged ld → r.window ≠ .closeWait) →
        s.callIdsUnique → (∀ d ∈ x.aboard, s.callIn d.call .loaded) →
        ∀ id c, tget s.calls id = some c → c.state = .loaded →
        t.returned id c (x.drops.filter fun d => d.call == id && (d.status == .carried ||
          (x.state == .onRun || x.state == .atStop) && d.status.waits && (match x.place with
            | some (.leg k) => decide (k ≤ d.stop)
            | some (.stop k) => decide (k + (if x.state = .atStop then 0 else 1) ≤ d.stop)
            | none => false) && decide (d.stop < s.stopsOf x))).length)) ∧
  (∀ (s : State) (i : Nat) (x : Train) (at_ : Location) (p : Place), tget s.trains i = some x → at_.place = some p →
    x.ahead (s.stopsOf x) at_ = true → (x.state = .returning ∨ x.state = .holding) →
    let t := s.takeLocation i at_
    tget t.trains i = some { x with
      location := at_, leftHome := true, place := some p, leg := some p.nextLeg, state := .returning } ∧
      (∀ j, j ≠ i → tget t.trains j = tget s.trains j) ∧ t.beyondReports = { s with trains := t.trains }.beyondReports) ∧
  (∀ (s : State) (a : Nat) (bs : List Byte), s.trainLink.exchange = some a → (replyBody .train a bs).bind readTrainReport = none →
    exec (.trainReply bs) s = exec (if 0x5A#8 ∈ bs then .fieldReplyBad .train else .replyTimeout .train) s) ∧
  ∀ (s : State) (bs : List Byte), s.trainLink.exchange = none → exec (.trainReply bs) s = exec (.strayFieldFrame .train bs) s

/-- A good rack reply ends the exchange and makes the terminal ALIVE. Each slot of the terminal takes its channel's counts as baselines;
where it had none, nothing else happens to it; where it had, a new tally number sets F to the quantity, P×Q at most, and pulls lower it. A
pull takes F down to the next whole container and, with R then at 1 or more, raises or enlarges the slot's PULL call by one; where the
full list stops the raise, the pull is owed, and asked for again once it can be. What bytes without a start mark are is deduced: log entry
22. The order of the channels, and what the LINK report of a terminal that turns ALIVE carries, are the model's choice: log entries 9 and
39. -/
def Obligations.RackRepliesTaken : Prop :=
  (∀ (s : State) (n : Nat) (x : Terminal) (body : List Byte) (vs : List (Nat × Nat × Nat)), 1 ≤ n → n ≤ 32 → tsorted s.slots = true →
    s.rackLink.exchange = some (rackAddress n) → tget s.rackLink.terminals (rackAddress n) = some x →
    readChannels 16 body = some vs →
    ∃ t, exec (.rackReply (frameBytes (byte (rackAddress n)) 0xC9#8 0 body)) s = .next t ∧ t.rackLink.exchange = none ∧
      tget t.rackLink.terminals (rackAddress n) = some { x with alive := true, misses := 0, lastGood := some s.plantTime } ∧
      t.rackLink.errors = s.rackLink.errors ∧ t.beyondSlots = { s with rackLink := t.rackLink }.beyondSlots ∧
      (∀ j sl, tget s.slots j = some sl → sl.dfn.rack.map (·.address) ≠ some n → tget t.stocks j = some sl.stock) ∧
      ∀ (ch i : Nat) (sl : Slot) (p q number : Nat), s.slotAt n ch = some (i, sl) → vs[ch]? = some (p, number, q) →
        ∃ st, tget t.stocks i = some st ∧ st.dfn = sl.dfn ∧ st.h = sl.h ∧ st.pullBase = some p ∧ st.tallyBase = some number ∧
          (sl.pullBase = none ∨ sl.tallyBase = none → st.f = sl.f ∧ st.counted = sl.counted) ∧
          ∀ pb tb, sl.pullBase = some pb → sl.tallyBase = some tb →
            (number ≠ tb → st.f = min (sl.dfn.p * sl.dfn.q) q ∧ st.counted = true) ∧
            (number = tb → st.f ≤ sl.f ∧ st.counted = sl.counted) ∧
            (number = tb → (p + 256 - pb) % 256 = 0 → st.f = sl.f) ∧
            (number = tb → (p + 256 - pb) % 256 = 1 → 1 ≤ sl.dfn.p → sl.dfn.kind = .bulk →
              st.f = min sl.f ((ceilDiv sl.f sl.dfn.q - 1) * sl.dfn.q)) ∧
      t = (s.goodReply .rack (rackAddress n) x).takeChannels n vs) ∧
  (∀ (s : State) (i : Nat) (sl : Slot), s.callIdsUnique → tget s.slots i = some sl →
    let t := s.pull i
    let f := min sl.f ((ceilDiv sl.f sl.dfn.q - 1) * sl.dfn.q)
    let asks := sl.counted = true ∧ 1 ≤ s.room i { sl with f := f }
    let waiting (s : State) : Nat :=
      ((s.calls.filter fun e => e.2.slot == i && e.2.state == .opn && e.2.cls == .pull).map (·.2.containers)).sum
    (sl.dfn.kind = .seq → t = s.reportFlag i none .seqPull) ∧
    (sl.dfn.kind = .bulk →
      (∀ j, tget t.stocks j = if j = i then some { sl.stock with f := f } else tget s.stocks j) ∧
      (∀ j, j ≠ i → tget t.slots j = tget s.slots j) ∧ t.beyondSlots = s.beyondSlots ∧
      (sl.owed = 0 → ¬ asks → waiting t = waiting s ∧ (tget t.slots i).map Slot.owed = some 0) ∧
      (asks → (s.openCall i .pull).isSome ∨ s.calls.length < 512 → sl.owed = 0 →
        waiting t = waiting s + 1 ∧ (tget t.slots i).map Slot.owed = some 0 ∧
        (s.openCall i .pull = none → ∃ id c, tget s.calls id = none ∧ tget t.calls id = some c ∧
          c = ⟨i, .pull, 1, sl.dfn.q, none, false, s.plantTime, sl.cr, .opn, none, false, 0⟩) ∧
        ∀ id c, s.openCall i .pull = some (id, c) →
          tget t.calls id = some { c with containers := c.containers + 1, due := min c.due sl.cr }) ∧
      (asks → s.openCall i .pull = none → 512 ≤ s.calls.length →
        waiting t = 0 ∧ (tget t.slots i).map Slot.owed = some (min sl.dfn.p (sl.owed + 1))))) ∧
  (∀ (s : State) (i : Nat) (sl : Slot), s.callIdsUnique → tget s.slots i = some sl → sl.dfn.kind = .bulk →
    let t := (s.retryOwed i).1
    let n := min sl.owed (s.room i sl).toNat
    (sl.owed = 0 ∨ s.openCall i .pull = none ∧ 512 ≤ s.calls.length → t = s) ∧
    (0 < sl.owed → (s.openCall i .pull).isSome ∨ s.calls.length < 512 →
      t.slots = tmod s.slots i (fun x => { x with owed := 0 }) ∧
      (sl.counted = false ∨ n = 0 → t.calls = s.calls) ∧
      (sl.counted = true → 0 < n →
        (s.openCall i .pull = none → ∃ id, tget s.calls id = none ∧
          t.calls = s.calls ++
            [(id, (⟨i, .pull, n, sl.dfn.q, none, false, s.plantTime, sl.cr, .opn, none, false, 0⟩ : Call))]) ∧
        ∀ id c, s.openCall i .pull = some (id, c) →
          t.calls = tmod s.calls id fun c => { c with containers := c.containers + n, due := min c.due sl.cr }))) ∧
  (∀ (s : State) (a : Nat) (bs : List Byte), s.rackLink.exchange = some a → (replyBody .rack a bs).bind (readChannels 16) = none →
    exec (.rackReply bs) s = exec (if 0x5A#8 ∈ bs then .fieldReplyBad .rack else .replyTimeout .rack) s) ∧
  ∀ (s : State) (bs : List Byte), s.rackLink.exchange = none → exec (.rackReply bs) s = exec (.strayFieldFrame .rack bs) s

end
end

