-- ==== Sys2Proof/Laws/State.lean ====
section
/-! SUPPORT. What each update of the state leaves of each field: one lemma per field per update. -/

namespace Sys2Proof.Machine

variable {s : State}


/-! ## report -/

@[simp] theorem State.report_plantTime (k : ReportKind) (b : Body) : (s.report k b).plantTime = s.plantTime := by unfold State.report; split <;> rfl
@[simp] theorem State.report_msPart (k : ReportKind) (b : Body) : (s.report k b).msPart = s.msPart := by unfold State.report; split <;> rfl
@[simp] theorem State.report_stations (k : ReportKind) (b : Body) : (s.report k b).stations = s.stations := by unfold State.report; split <;> rfl
@[simp] theorem State.report_takt (k : ReportKind) (b : Body) : (s.report k b).takt = s.takt := by unfold State.report; split <;> rfl
@[simp] theorem State.report_mode (k : ReportKind) (b : Body) : (s.report k b).mode = s.mode := by unfold State.report; split <;> rfl
@[simp] theorem State.report_lineArray (k : ReportKind) (b : Body) : (s.report k b).lineArray = s.lineArray := by unfold State.report; split <;> rfl
@[simp] theorem State.report_announced (k : ReportKind) (b : Body) : (s.report k b).announced = s.announced := by unfold State.report; split <;> rfl
@[simp] theorem State.report_highest (k : ReportKind) (b : Body) : (s.report k b).highest = s.highest := by unfold State.report; split <;> rfl
@[simp] theorem State.report_slots (k : ReportKind) (b : Body) : (s.report k b).slots = s.slots := by unfold State.report; split <;> rfl
@[simp] theorem State.report_calls (k : ReportKind) (b : Body) : (s.report k b).calls = s.calls := by unfold State.report; split <;> rfl
@[simp] theorem State.report_nextCall (k : ReportKind) (b : Body) : (s.report k b).nextCall = s.nextCall := by unfold State.report; split <;> rfl
@[simp] theorem State.report_fullReported (k : ReportKind) (b : Body) : (s.report k b).fullReported = s.fullReported := by unfold State.report; split <;> rfl
@[simp] theorem State.report_mask (k : ReportKind) (b : Body) : (s.report k b).mask = s.mask := by unfold State.report; split <;> rfl
@[simp] theorem State.report_loops (k : ReportKind) (b : Body) : (s.report k b).loops = s.loops := by unfold State.report; split <;> rfl
@[simp] theorem State.report_nextLoad (k : ReportKind) (b : Body) : (s.report k b).nextLoad = s.nextLoad := by unfold State.report; split <;> rfl
@[simp] theorem State.report_trains (k : ReportKind) (b : Body) : (s.report k b).trains = s.trains := by unfold State.report; split <;> rfl
@[simp] theorem State.report_fleet (k : ReportKind) (b : Body) : (s.report k b).fleet = s.fleet := by unfold State.report; split <;> rfl
@[simp] theorem State.report_homeQ (k : ReportKind) (b : Body) : (s.report k b).homeQ = s.homeQ := by unfold State.report; split <;> rfl
@[simp] theorem State.report_departQ (k : ReportKind) (b : Body) : (s.report k b).departQ = s.departQ := by unfold State.report; split <;> rfl
@[simp] theorem State.report_chargeQ (k : ReportKind) (b : Body) : (s.report k b).chargeQ = s.chargeQ := by unfold State.report; split <;> rfl
@[simp] theorem State.report_lastGo (k : ReportKind) (b : Body) : (s.report k b).lastGo = s.lastGo := by unfold State.report; split <;> rfl
@[simp] theorem State.report_nextHot (k : ReportKind) (b : Body) : (s.report k b).nextHot = s.nextHot := by unfold State.report; split <;> rfl
@[simp] theorem State.report_zones (k : ReportKind) (b : Body) : (s.report k b).zones = s.zones := by unfold State.report; split <;> rfl
@[simp] theorem State.report_gateLimit (k : ReportKind) (b : Body) : (s.report k b).gateLimit = s.gateLimit := by unfold State.report; split <;> rfl
@[simp] theorem State.report_grantLimit (k : ReportKind) (b : Body) : (s.report k b).grantLimit = s.grantLimit := by unfold State.report; split <;> rfl
@[simp] theorem State.report_trainLink (k : ReportKind) (b : Body) : (s.report k b).trainLink = s.trainLink := by unfold State.report; split <;> rfl
@[simp] theorem State.report_rackLink (k : ReportKind) (b : Body) : (s.report k b).rackLink = s.rackLink := by unfold State.report; split <;> rfl
@[simp] theorem State.report_requestQueue (k : ReportKind) (b : Body) : (s.report k b).requestQueue = s.requestQueue := by unfold State.report; split <;> rfl
@[simp] theorem State.report_lineErrors (k : ReportKind) (b : Body) : (s.report k b).lineErrors = s.lineErrors := by unfold State.report; split <;> rfl
@[simp] theorem State.report_image (k : ReportKind) (b : Body) : (s.report k b).image = s.image := by unfold State.report; split <;> rfl
@[simp] theorem State.report_imageCheck (k : ReportKind) (b : Body) : (s.report k b).imageCheck = s.imageCheck := by unfold State.report; split <;> rfl
@[simp] theorem State.report_badMark (k : ReportKind) (b : Body) : (s.report k b).badMark = s.badMark := by unfold State.report; split <;> rfl
@[simp] theorem State.report_imageState (k : ReportKind) (b : Body) : (s.report k b).imageState = s.imageState := by unfold State.report; split <;> rfl
@[simp] theorem State.report_store (k : ReportKind) (b : Body) : (s.report k b).store = s.store := by unfold State.report; split <;> rfl
@[simp] theorem State.report_causes (k : ReportKind) (b : Body) : (s.report k b).causes = s.causes := by unfold State.report; split <;> rfl
@[simp] theorem State.report_sent (k : ReportKind) (b : Body) : (s.report k b).sent = s.sent := by unfold State.report; split <;> rfl
@[simp] theorem State.report_pending (k : ReportKind) (b : Body) : (s.report k b).pending = s.pending := by unfold State.report; split <;> rfl

/-! ## reply -/

@[simp] theorem State.reply_plantTime (k t : Byte) (a : Answer) : (s.reply k t a).plantTime = s.plantTime := rfl
@[simp] theorem State.reply_msPart (k t : Byte) (a : Answer) : (s.reply k t a).msPart = s.msPart := rfl
@[simp] theorem State.reply_stations (k t : Byte) (a : Answer) : (s.reply k t a).stations = s.stations := rfl
@[simp] theorem State.reply_takt (k t : Byte) (a : Answer) : (s.reply k t a).takt = s.takt := rfl
@[simp] theorem State.reply_mode (k t : Byte) (a : Answer) : (s.reply k t a).mode = s.mode := rfl
@[simp] theorem State.reply_lineArray (k t : Byte) (a : Answer) : (s.reply k t a).lineArray = s.lineArray := rfl
@[simp] theorem State.reply_announced (k t : Byte) (a : Answer) : (s.reply k t a).announced = s.announced := rfl
@[simp] theorem State.reply_highest (k t : Byte) (a : Answer) : (s.reply k t a).highest = s.highest := rfl
@[simp] theorem State.reply_slots (k t : Byte) (a : Answer) : (s.reply k t a).slots = s.slots := rfl
@[simp] theorem State.reply_calls (k t : Byte) (a : Answer) : (s.reply k t a).calls = s.calls := rfl
@[simp] theorem State.reply_nextCall (k t : Byte) (a : Answer) : (s.reply k t a).nextCall = s.nextCall := rfl
@[simp] theorem State.reply_fullReported (k t : Byte) (a : Answer) : (s.reply k t a).fullReported = s.fullReported := rfl
@[simp] theorem State.reply_mask (k t : Byte) (a : Answer) : (s.reply k t a).mask = s.mask := rfl
@[simp] theorem State.reply_loops (k t : Byte) (a : Answer) : (s.reply k t a).loops = s.loops := rfl
@[simp] theorem State.reply_nextLoad (k t : Byte) (a : Answer) : (s.reply k t a).nextLoad = s.nextLoad := rfl
@[simp] theorem State.reply_trains (k t : Byte) (a : Answer) : (s.reply k t a).trains = s.trains := rfl
@[simp] theorem State.reply_fleet (k t : Byte) (a : Answer) : (s.reply k t a).fleet = s.fleet := rfl
@[simp] theorem State.reply_homeQ (k t : Byte) (a : Answer) : (s.reply k t a).homeQ = s.homeQ := rfl
@[simp] theorem State.reply_departQ (k t : Byte) (a : Answer) : (s.reply k t a).departQ = s.departQ := rfl
@[simp] theorem State.reply_chargeQ (k t : Byte) (a : Answer) : (s.reply k t a).chargeQ = s.chargeQ := rfl
@[simp] theorem State.reply_lastGo (k t : Byte) (a : Answer) : (s.reply k t a).lastGo = s.lastGo := rfl
@[simp] theorem State.reply_nextHot (k t : Byte) (a : Answer) : (s.reply k t a).nextHot = s.nextHot := rfl
@[simp] theorem State.reply_zones (k t : Byte) (a : Answer) : (s.reply k t a).zones = s.zones := rfl
@[simp] theorem State.reply_gateLimit (k t : Byte) (a : Answer) : (s.reply k t a).gateLimit = s.gateLimit := rfl
@[simp] theorem State.reply_grantLimit (k t : Byte) (a : Answer) : (s.reply k t a).grantLimit = s.grantLimit := rfl
@[simp] theorem State.reply_trainLink (k t : Byte) (a : Answer) : (s.reply k t a).trainLink = s.trainLink := rfl
@[simp] theorem State.reply_rackLink (k t : Byte) (a : Answer) : (s.reply k t a).rackLink = s.rackLink := rfl
@[simp] theorem State.reply_requestQueue (k t : Byte) (a : Answer) : (s.reply k t a).requestQueue = s.requestQueue := rfl
@[simp] theorem State.reply_reportQueue (k t : Byte) (a : Answer) : (s.reply k t a).reportQueue = s.reportQueue := rfl
@[simp] theorem State.reply_gap (k t : Byte) (a : Answer) : (s.reply k t a).gap = s.gap := rfl
@[simp] theorem State.reply_lineErrors (k t : Byte) (a : Answer) : (s.reply k t a).lineErrors = s.lineErrors := rfl
@[simp] theorem State.reply_image (k t : Byte) (a : Answer) : (s.reply k t a).image = s.image := rfl
@[simp] theorem State.reply_imageCheck (k t : Byte) (a : Answer) : (s.reply k t a).imageCheck = s.imageCheck := rfl
@[simp] theorem State.reply_badMark (k t : Byte) (a : Answer) : (s.reply k t a).badMark = s.badMark := rfl
@[simp] theorem State.reply_imageState (k t : Byte) (a : Answer) : (s.reply k t a).imageState = s.imageState := rfl
@[simp] theorem State.reply_store (k t : Byte) (a : Answer) : (s.reply k t a).store = s.store := rfl
@[simp] theorem State.reply_causes (k t : Byte) (a : Answer) : (s.reply k t a).causes = s.causes := rfl
@[simp] theorem State.reply_pending (k t : Byte) (a : Answer) : (s.reply k t a).pending = s.pending := rfl
@[simp] theorem State.reply_sent (k t : Byte) (a : Answer) : (s.reply k t a).sent = s.sent ++ [.reply ⟨k, t, a⟩] := rfl

/-! ## leaveQueue -/

@[simp] theorem State.leaveQueue_plantTime (k t : Byte) : (s.leaveQueue k t).plantTime = s.plantTime := by unfold State.leaveQueue; split <;> (try split) <;> rfl
@[simp] theorem State.leaveQueue_msPart (k t : Byte) : (s.leaveQueue k t).msPart = s.msPart := by unfold State.leaveQueue; split <;> (try split) <;> rfl
@[simp] theorem State.leaveQueue_stations (k t : Byte) : (s.leaveQueue k t).stations = s.stations := by unfold State.leaveQueue; split <;> (try split) <;> rfl
@[simp] theorem State.leaveQueue_takt (k t : Byte) : (s.leaveQueue k t).takt = s.takt := by unfold State.leaveQueue; split <;> (try split) <;> rfl
@[simp] theorem State.leaveQueue_mode (k t : Byte) : (s.leaveQueue k t).mode = s.mode := by unfold State.leaveQueue; split <;> (try split) <;> rfl
@[simp] theorem State.leaveQueue_lineArray (k t : Byte) : (s.leaveQueue k t).lineArray = s.lineArray := by unfold State.leaveQueue; split <;> (try split) <;> rfl
@[simp] theorem State.leaveQueue_announced (k t : Byte) : (s.leaveQueue k t).announced = s.announced := by unfold State.leaveQueue; split <;> (try split) <;> rfl
@[simp] theorem State.leaveQueue_highest (k t : Byte) : (s.leaveQueue k t).highest = s.highest := by unfold State.leaveQueue; split <;> (try split) <;> rfl
@[simp] theorem State.leaveQueue_slots (k t : Byte) : (s.leaveQueue k t).slots = s.slots := by unfold State.leaveQueue; split <;> (try split) <;> rfl
@[simp] theorem State.leaveQueue_calls (k t : Byte) : (s.leaveQueue k t).calls = s.calls := by unfold State.leaveQueue; split <;> (try split) <;> rfl
@[simp] theorem State.leaveQueue_nextCall (k t : Byte) : (s.leaveQueue k t).nextCall = s.nextCall := by unfold State.leaveQueue; split <;> (try split) <;> rfl
@[simp] theorem State.leaveQueue_fullReported (k t : Byte) : (s.leaveQueue k t).fullReported = s.fullReported := by unfold State.leaveQueue; split <;> (try split) <;> rfl
@[simp] theorem State.leaveQueue_mask (k t : Byte) : (s.leaveQueue k t).mask = s.mask := by unfold State.leaveQueue; split <;> (try split) <;> rfl
@[simp] theorem State.leaveQueue_loops (k t : Byte) : (s.leaveQueue k t).loops = s.loops := by unfold State.leaveQueue; split <;> (try split) <;> rfl
@[simp] theorem State.leaveQueue_nextLoad (k t : Byte) : (s.leaveQueue k t).nextLoad = s.nextLoad := by unfold State.leaveQueue; split <;> (try split) <;> rfl
@[simp] theorem State.leaveQueue_trains (k t : Byte) : (s.leaveQueue k t).trains = s.trains := by unfold State.leaveQueue; split <;> (try split) <;> rfl
@[simp] theorem State.leaveQueue_fleet (k t : Byte) : (s.leaveQueue k t).fleet = s.fleet := by unfold State.leaveQueue; split <;> (try split) <;> rfl
@[simp] theorem State.leaveQueue_homeQ (k t : Byte) : (s.leaveQueue k t).homeQ = s.homeQ := by unfold State.leaveQueue; split <;> (try split) <;> rfl
@[simp] theorem State.leaveQueue_departQ (k t : Byte) : (s.leaveQueue k t).departQ = s.departQ := by unfold State.leaveQueue; split <;> (try split) <;> rfl
@[simp] theorem State.leaveQueue_chargeQ (k t : Byte) : (s.leaveQueue k t).chargeQ = s.chargeQ := by unfold State.leaveQueue; split <;> (try split) <;> rfl
@[simp] theorem State.leaveQueue_lastGo (k t : Byte) : (s.leaveQueue k t).lastGo = s.lastGo := by unfold State.leaveQueue; split <;> (try split) <;> rfl
@[simp] theorem State.leaveQueue_nextHot (k t : Byte) : (s.leaveQueue k t).nextHot = s.nextHot := by unfold State.leaveQueue; split <;> (try split) <;> rfl
@[simp] theorem State.leaveQueue_zones (k t : Byte) : (s.leaveQueue k t).zones = s.zones := by unfold State.leaveQueue; split <;> (try split) <;> rfl
@[simp] theorem State.leaveQueue_gateLimit (k t : Byte) : (s.leaveQueue k t).gateLimit = s.gateLimit := by unfold State.leaveQueue; split <;> (try split) <;> rfl
@[simp] theorem State.leaveQueue_grantLimit (k t : Byte) : (s.leaveQueue k t).grantLimit = s.grantLimit := by unfold State.leaveQueue; split <;> (try split) <;> rfl
@[simp] theorem State.leaveQueue_trainLink (k t : Byte) : (s.leaveQueue k t).trainLink = s.trainLink := by unfold State.leaveQueue; split <;> (try split) <;> rfl
@[simp] theorem State.leaveQueue_rackLink (k t : Byte) : (s.leaveQueue k t).rackLink = s.rackLink := by unfold State.leaveQueue; split <;> (try split) <;> rfl
@[simp] theorem State.leaveQueue_reportQueue (k t : Byte) : (s.leaveQueue k t).reportQueue = s.reportQueue := by unfold State.leaveQueue; split <;> (try split) <;> rfl
@[simp] theorem State.leaveQueue_gap (k t : Byte) : (s.leaveQueue k t).gap = s.gap := by unfold State.leaveQueue; split <;> (try split) <;> rfl
@[simp] theorem State.leaveQueue_lineErrors (k t : Byte) : (s.leaveQueue k t).lineErrors = s.lineErrors := by unfold State.leaveQueue; split <;> (try split) <;> rfl
@[simp] theorem State.leaveQueue_image (k t : Byte) : (s.leaveQueue k t).image = s.image := by unfold State.leaveQueue; split <;> (try split) <;> rfl
@[simp] theorem State.leaveQueue_imageCheck (k t : Byte) : (s.leaveQueue k t).imageCheck = s.imageCheck := by unfold State.leaveQueue; split <;> (try split) <;> rfl
@[simp] theorem State.leaveQueue_badMark (k t : Byte) : (s.leaveQueue k t).badMark = s.badMark := by unfold State.leaveQueue; split <;> (try split) <;> rfl
@[simp] theorem State.leaveQueue_imageState (k t : Byte) : (s.leaveQueue k t).imageState = s.imageState := by unfold State.leaveQueue; split <;> (try split) <;> rfl
@[simp] theorem State.leaveQueue_store (k t : Byte) : (s.leaveQueue k t).store = s.store := by unfold State.leaveQueue; split <;> (try split) <;> rfl
@[simp] theorem State.leaveQueue_causes (k t : Byte) : (s.leaveQueue k t).causes = s.causes := by unfold State.leaveQueue; split <;> (try split) <;> rfl
@[simp] theorem State.leaveQueue_sent (k t : Byte) : (s.leaveQueue k t).sent = s.sent := by unfold State.leaveQueue; split <;> (try split) <;> rfl
@[simp] theorem State.leaveQueue_pending (k t : Byte) : (s.leaveQueue k t).pending = s.pending := by unfold State.leaveQueue; split <;> (try split) <;> rfl

/-! ## modSlot -/

@[simp] theorem State.modSlot_plantTime (i : Nat) (f : Slot → Slot) : (s.modSlot i f).plantTime = s.plantTime := rfl
@[simp] theorem State.modSlot_msPart (i : Nat) (f : Slot → Slot) : (s.modSlot i f).msPart = s.msPart := rfl
@[simp] theorem State.modSlot_stations (i : Nat) (f : Slot → Slot) : (s.modSlot i f).stations = s.stations := rfl
@[simp] theorem State.modSlot_takt (i : Nat) (f : Slot → Slot) : (s.modSlot i f).takt = s.takt := rfl
@[simp] theorem State.modSlot_mode (i : Nat) (f : Slot → Slot) : (s.modSlot i f).mode = s.mode := rfl
@[simp] theorem State.modSlot_lineArray (i : Nat) (f : Slot → Slot) : (s.modSlot i f).lineArray = s.lineArray := rfl
@[simp] theorem State.modSlot_announced (i : Nat) (f : Slot → Slot) : (s.modSlot i f).announced = s.announced := rfl
@[simp] theorem State.modSlot_highest (i : Nat) (f : Slot → Slot) : (s.modSlot i f).highest = s.highest := rfl
@[simp] theorem State.modSlot_calls (i : Nat) (f : Slot → Slot) : (s.modSlot i f).calls = s.calls := rfl
@[simp] theorem State.modSlot_nextCall (i : Nat) (f : Slot → Slot) : (s.modSlot i f).nextCall = s.nextCall := rfl
@[simp] theorem State.modSlot_fullReported (i : Nat) (f : Slot → Slot) : (s.modSlot i f).fullReported = s.fullReported := rfl
@[simp] theorem State.modSlot_mask (i : Nat) (f : Slot → Slot) : (s.modSlot i f).mask = s.mask := rfl
@[simp] theorem State.modSlot_loops (i : Nat) (f : Slot → Slot) : (s.modSlot i f).loops = s.loops := rfl
@[simp] theorem State.modSlot_nextLoad (i : Nat) (f : Slot → Slot) : (s.modSlot i f).nextLoad = s.nextLoad := rfl
@[simp] theorem State.modSlot_trains (i : Nat) (f : Slot → Slot) : (s.modSlot i f).trains = s.trains := rfl
@[simp] theorem State.modSlot_fleet (i : Nat) (f : Slot → Slot) : (s.modSlot i f).fleet = s.fleet := rfl
@[simp] theorem State.modSlot_homeQ (i : Nat) (f : Slot → Slot) : (s.modSlot i f).homeQ = s.homeQ := rfl
@[simp] theorem State.modSlot_departQ (i : Nat) (f : Slot → Slot) : (s.modSlot i f).departQ = s.departQ := rfl
@[simp] theorem State.modSlot_chargeQ (i : Nat) (f : Slot → Slot) : (s.modSlot i f).chargeQ = s.chargeQ := rfl
@[simp] theorem State.modSlot_lastGo (i : Nat) (f : Slot → Slot) : (s.modSlot i f).lastGo = s.lastGo := rfl
@[simp] theorem State.modSlot_nextHot (i : Nat) (f : Slot → Slot) : (s.modSlot i f).nextHot = s.nextHot := rfl
@[simp] theorem State.modSlot_zones (i : Nat) (f : Slot → Slot) : (s.modSlot i f).zones = s.zones := rfl
@[simp] theorem State.modSlot_gateLimit (i : Nat) (f : Slot → Slot) : (s.modSlot i f).gateLimit = s.gateLimit := rfl
@[simp] theorem State.modSlot_grantLimit (i : Nat) (f : Slot → Slot) : (s.modSlot i f).grantLimit = s.grantLimit := rfl
@[simp] theorem State.modSlot_trainLink (i : Nat) (f : Slot → Slot) : (s.modSlot i f).trainLink = s.trainLink := rfl
@[simp] theorem State.modSlot_rackLink (i : Nat) (f : Slot → Slot) : (s.modSlot i f).rackLink = s.rackLink := rfl
@[simp] theorem State.modSlot_requestQueue (i : Nat) (f : Slot → Slot) : (s.modSlot i f).requestQueue = s.requestQueue := rfl
@[simp] theorem State.modSlot_reportQueue (i : Nat) (f : Slot → Slot) : (s.modSlot i f).reportQueue = s.reportQueue := rfl
@[simp] theorem State.modSlot_gap (i : Nat) (f : Slot → Slot) : (s.modSlot i f).gap = s.gap := rfl
@[simp] theorem State.modSlot_lineErrors (i : Nat) (f : Slot → Slot) : (s.modSlot i f).lineErrors = s.lineErrors := rfl
@[simp] theorem State.modSlot_image (i : Nat) (f : Slot → Slot) : (s.modSlot i f).image = s.image := rfl
@[simp] theorem State.modSlot_imageCheck (i : Nat) (f : Slot → Slot) : (s.modSlot i f).imageCheck = s.imageCheck := rfl
@[simp] theorem State.modSlot_badMark (i : Nat) (f : Slot → Slot) : (s.modSlot i f).badMark = s.badMark := rfl
@[simp] theorem State.modSlot_imageState (i : Nat) (f : Slot → Slot) : (s.modSlot i f).imageState = s.imageState := rfl
@[simp] theorem State.modSlot_store (i : Nat) (f : Slot → Slot) : (s.modSlot i f).store = s.store := rfl
@[simp] theorem State.modSlot_causes (i : Nat) (f : Slot → Slot) : (s.modSlot i f).causes = s.causes := rfl
@[simp] theorem State.modSlot_sent (i : Nat) (f : Slot → Slot) : (s.modSlot i f).sent = s.sent := rfl
@[simp] theorem State.modSlot_pending (i : Nat) (f : Slot → Slot) : (s.modSlot i f).pending = s.pending := rfl
@[simp] theorem State.modSlot_slots (i : Nat) (f : Slot → Slot) : (s.modSlot i f).slots = tmod s.slots i f := rfl

/-! ## modCall -/

@[simp] theorem State.modCall_plantTime (i : Nat) (f : Call → Call) : (s.modCall i f).plantTime = s.plantTime := rfl
@[simp] theorem State.modCall_msPart (i : Nat) (f : Call → Call) : (s.modCall i f).msPart = s.msPart := rfl
@[simp] theorem State.modCall_stations (i : Nat) (f : Call → Call) : (s.modCall i f).stations = s.stations := rfl
@[simp] theorem State.modCall_takt (i : Nat) (f : Call → Call) : (s.modCall i f).takt = s.takt := rfl
@[simp] theorem State.modCall_mode (i : Nat) (f : Call → Call) : (s.modCall i f).mode = s.mode := rfl
@[simp] theorem State.modCall_lineArray (i : Nat) (f : Call → Call) : (s.modCall i f).lineArray = s.lineArray := rfl
@[simp] theorem State.modCall_announced (i : Nat) (f : Call → Call) : (s.modCall i f).announced = s.announced := rfl
@[simp] theorem State.modCall_highest (i : Nat) (f : Call → Call) : (s.modCall i f).highest = s.highest := rfl
@[simp] theorem State.modCall_slots (i : Nat) (f : Call → Call) : (s.modCall i f).slots = s.slots := rfl
@[simp] theorem State.modCall_nextCall (i : Nat) (f : Call → Call) : (s.modCall i f).nextCall = s.nextCall := rfl
@[simp] theorem State.modCall_fullReported (i : Nat) (f : Call → Call) : (s.modCall i f).fullReported = s.fullReported := rfl
@[simp] theorem State.modCall_mask (i : Nat) (f : Call → Call) : (s.modCall i f).mask = s.mask := rfl
@[simp] theorem State.modCall_loops (i : Nat) (f : Call → Call) : (s.modCall i f).loops = s.loops := rfl
@[simp] theorem State.modCall_nextLoad (i : Nat) (f : Call → Call) : (s.modCall i f).nextLoad = s.nextLoad := rfl
@[simp] theorem State.modCall_trains (i : Nat) (f : Call → Call) : (s.modCall i f).trains = s.trains := rfl
@[simp] theorem State.modCall_fleet (i : Nat) (f : Call → Call) : (s.modCall i f).fleet = s.fleet := rfl
@[simp] theorem State.modCall_homeQ (i : Nat) (f : Call → Call) : (s.modCall i f).homeQ = s.homeQ := rfl
@[simp] theorem State.modCall_departQ (i : Nat) (f : Call → Call) : (s.modCall i f).departQ = s.departQ := rfl
@[simp] theorem State.modCall_chargeQ (i : Nat) (f : Call → Call) : (s.modCall i f).chargeQ = s.chargeQ := rfl
@[simp] theorem State.modCall_lastGo (i : Nat) (f : Call → Call) : (s.modCall i f).lastGo = s.lastGo := rfl
@[simp] theorem State.modCall_nextHot (i : Nat) (f : Call → Call) : (s.modCall i f).nextHot = s.nextHot := rfl
@[simp] theorem State.modCall_zones (i : Nat) (f : Call → Call) : (s.modCall i f).zones = s.zones := rfl
@[simp] theorem State.modCall_gateLimit (i : Nat) (f : Call → Call) : (s.modCall i f).gateLimit = s.gateLimit := rfl
@[simp] theorem State.modCall_grantLimit (i : Nat) (f : Call → Call) : (s.modCall i f).grantLimit = s.grantLimit := rfl
@[simp] theorem State.modCall_trainLink (i : Nat) (f : Call → Call) : (s.modCall i f).trainLink = s.trainLink := rfl
@[simp] theorem State.modCall_rackLink (i : Nat) (f : Call → Call) : (s.modCall i f).rackLink = s.rackLink := rfl
@[simp] theorem State.modCall_requestQueue (i : Nat) (f : Call → Call) : (s.modCall i f).requestQueue = s.requestQueue := rfl
@[simp] theorem State.modCall_reportQueue (i : Nat) (f : Call → Call) : (s.modCall i f).reportQueue = s.reportQueue := rfl
@[simp] theorem State.modCall_gap (i : Nat) (f : Call → Call) : (s.modCall i f).gap = s.gap := rfl
@[simp] theorem State.modCall_lineErrors (i : Nat) (f : Call → Call) : (s.modCall i f).lineErrors = s.lineErrors := rfl
@[simp] theorem State.modCall_image (i : Nat) (f : Call → Call) : (s.modCall i f).image = s.image := rfl
@[simp] theorem State.modCall_imageCheck (i : Nat) (f : Call → Call) : (s.modCall i f).imageCheck = s.imageCheck := rfl
@[simp] theorem State.modCall_badMark (i : Nat) (f : Call → Call) : (s.modCall i f).badMark = s.badMark := rfl
@[simp] theorem State.modCall_imageState (i : Nat) (f : Call → Call) : (s.modCall i f).imageState = s.imageState := rfl
@[simp] theorem State.modCall_store (i : Nat) (f : Call → Call) : (s.modCall i f).store = s.store := rfl
@[simp] theorem State.modCall_causes (i : Nat) (f : Call → Call) : (s.modCall i f).causes = s.causes := rfl
@[simp] theorem State.modCall_sent (i : Nat) (f : Call → Call) : (s.modCall i f).sent = s.sent := rfl
@[simp] theorem State.modCall_pending (i : Nat) (f : Call → Call) : (s.modCall i f).pending = s.pending := rfl
@[simp] theorem State.modCall_calls (i : Nat) (f : Call → Call) : (s.modCall i f).calls = tmod s.calls i f := rfl

/-! ## modLoop -/

@[simp] theorem State.modLoop_plantTime (i : Nat) (f : LoopRec → LoopRec) : (s.modLoop i f).plantTime = s.plantTime := rfl
@[simp] theorem State.modLoop_msPart (i : Nat) (f : LoopRec → LoopRec) : (s.modLoop i f).msPart = s.msPart := rfl
@[simp] theorem State.modLoop_stations (i : Nat) (f : LoopRec → LoopRec) : (s.modLoop i f).stations = s.stations := rfl
@[simp] theorem State.modLoop_takt (i : Nat) (f : LoopRec → LoopRec) : (s.modLoop i f).takt = s.takt := rfl
@[simp] theorem State.modLoop_mode (i : Nat) (f : LoopRec → LoopRec) : (s.modLoop i f).mode = s.mode := rfl
@[simp] theorem State.modLoop_lineArray (i : Nat) (f : LoopRec → LoopRec) : (s.modLoop i f).lineArray = s.lineArray := rfl
@[simp] theorem State.modLoop_announced (i : Nat) (f : LoopRec → LoopRec) : (s.modLoop i f).announced = s.announced := rfl
@[simp] theorem State.modLoop_highest (i : Nat) (f : LoopRec → LoopRec) : (s.modLoop i f).highest = s.highest := rfl
@[simp] theorem State.modLoop_slots (i : Nat) (f : LoopRec → LoopRec) : (s.modLoop i f).slots = s.slots := rfl
@[simp] theorem State.modLoop_calls (i : Nat) (f : LoopRec → LoopRec) : (s.modLoop i f).calls = s.calls := rfl
@[simp] theorem State.modLoop_nextCall (i : Nat) (f : LoopRec → LoopRec) : (s.modLoop i f).nextCall = s.nextCall := rfl
@[simp] theorem State.modLoop_fullReported (i : Nat) (f : LoopRec → LoopRec) : (s.modLoop i f).fullReported = s.fullReported := rfl
@[simp] theorem State.modLoop_mask (i : Nat) (f : LoopRec → LoopRec) : (s.modLoop i f).mask = s.mask := rfl
@[simp] theorem State.modLoop_nextLoad (i : Nat) (f : LoopRec → LoopRec) : (s.modLoop i f).nextLoad = s.nextLoad := rfl
@[simp] theorem State.modLoop_trains (i : Nat) (f : LoopRec → LoopRec) : (s.modLoop i f).trains = s.trains := rfl
@[simp] theorem State.modLoop_fleet (i : Nat) (f : LoopRec → LoopRec) : (s.modLoop i f).fleet = s.fleet := rfl
@[simp] theorem State.modLoop_homeQ (i : Nat) (f : LoopRec → LoopRec) : (s.modLoop i f).homeQ = s.homeQ := rfl
@[simp] theorem State.modLoop_departQ (i : Nat) (f : LoopRec → LoopRec) : (s.modLoop i f).departQ = s.departQ := rfl
@[simp] theorem State.modLoop_chargeQ (i : Nat) (f : LoopRec → LoopRec) : (s.modLoop i f).chargeQ = s.chargeQ := rfl
@[simp] theorem State.modLoop_lastGo (i : Nat) (f : LoopRec → LoopRec) : (s.modLoop i f).lastGo = s.lastGo := rfl
@[simp] theorem State.modLoop_nextHot (i : Nat) (f : LoopRec → LoopRec) : (s.modLoop i f).nextHot = s.nextHot := rfl
@[simp] theorem State.modLoop_zones (i : Nat) (f : LoopRec → LoopRec) : (s.modLoop i f).zones = s.zones := rfl
@[simp] theorem State.modLoop_gateLimit (i : Nat) (f : LoopRec → LoopRec) : (s.modLoop i f).gateLimit = s.gateLimit := rfl
@[simp] theorem State.modLoop_grantLimit (i : Nat) (f : LoopRec → LoopRec) : (s.modLoop i f).grantLimit = s.grantLimit := rfl
@[simp] theorem State.modLoop_trainLink (i : Nat) (f : LoopRec → LoopRec) : (s.modLoop i f).trainLink = s.trainLink := rfl
@[simp] theorem State.modLoop_rackLink (i : Nat) (f : LoopRec → LoopRec) : (s.modLoop i f).rackLink = s.rackLink := rfl
@[simp] theorem State.modLoop_requestQueue (i : Nat) (f : LoopRec → LoopRec) : (s.modLoop i f).requestQueue = s.requestQueue := rfl
@[simp] theorem State.modLoop_reportQueue (i : Nat) (f : LoopRec → LoopRec) : (s.modLoop i f).reportQueue = s.reportQueue := rfl
@[simp] theorem State.modLoop_gap (i : Nat) (f : LoopRec → LoopRec) : (s.modLoop i f).gap = s.gap := rfl
@[simp] theorem State.modLoop_lineErrors (i : Nat) (f : LoopRec → LoopRec) : (s.modLoop i f).lineErrors = s.lineErrors := rfl
@[simp] theorem State.modLoop_image (i : Nat) (f : LoopRec → LoopRec) : (s.modLoop i f).image = s.image := rfl
@[simp] theorem State.modLoop_imageCheck (i : Nat) (f : LoopRec → LoopRec) : (s.modLoop i f).imageCheck = s.imageCheck := rfl
@[simp] theorem State.modLoop_badMark (i : Nat) (f : LoopRec → LoopRec) : (s.modLoop i f).badMark = s.badMark := rfl
@[simp] theorem State.modLoop_imageState (i : Nat) (f : LoopRec → LoopRec) : (s.modLoop i f).imageState = s.imageState := rfl
@[simp] theorem State.modLoop_store (i : Nat) (f : LoopRec → LoopRec) : (s.modLoop i f).store = s.store := rfl
@[simp] theorem State.modLoop_causes (i : Nat) (f : LoopRec → LoopRec) : (s.modLoop i f).causes = s.causes := rfl
@[simp] theorem State.modLoop_sent (i : Nat) (f : LoopRec → LoopRec) : (s.modLoop i f).sent = s.sent := rfl
@[simp] theorem State.modLoop_pending (i : Nat) (f : LoopRec → LoopRec) : (s.modLoop i f).pending = s.pending := rfl
@[simp] theorem State.modLoop_loops (i : Nat) (f : LoopRec → LoopRec) : (s.modLoop i f).loops = tmod s.loops i f := rfl

/-! ## modTrain -/

@[simp] theorem State.modTrain_plantTime (i : Nat) (f : Train → Train) : (s.modTrain i f).plantTime = s.plantTime := rfl
@[simp] theorem State.modTrain_msPart (i : Nat) (f : Train → Train) : (s.modTrain i f).msPart = s.msPart := rfl
@[simp] theorem State.modTrain_stations (i : Nat) (f : Train → Train) : (s.modTrain i f).stations = s.stations := rfl
@[simp] theorem State.modTrain_takt (i : Nat) (f : Train → Train) : (s.modTrain i f).takt = s.takt := rfl
@[simp] theorem State.modTrain_mode (i : Nat) (f : Train → Train) : (s.modTrain i f).mode = s.mode := rfl
@[simp] theorem State.modTrain_lineArray (i : Nat) (f : Train → Train) : (s.modTrain i f).lineArray = s.lineArray := rfl
@[simp] theorem State.modTrain_announced (i : Nat) (f : Train → Train) : (s.modTrain i f).announced = s.announced := rfl
@[simp] theorem State.modTrain_highest (i : Nat) (f : Train → Train) : (s.modTrain i f).highest = s.highest := rfl
@[simp] theorem State.modTrain_slots (i : Nat) (f : Train → Train) : (s.modTrain i f).slots = s.slots := rfl
@[simp] theorem State.modTrain_calls (i : Nat) (f : Train → Train) : (s.modTrain i f).calls = s.calls := rfl
@[simp] theorem State.modTrain_nextCall (i : Nat) (f : Train → Train) : (s.modTrain i f).nextCall = s.nextCall := rfl
@[simp] theorem State.modTrain_fullReported (i : Nat) (f : Train → Train) : (s.modTrain i f).fullReported = s.fullReported := rfl
@[simp] theorem State.modTrain_mask (i : Nat) (f : Train → Train) : (s.modTrain i f).mask = s.mask := rfl
@[simp] theorem State.modTrain_loops (i : Nat) (f : Train → Train) : (s.modTrain i f).loops = s.loops := rfl
@[simp] theorem State.modTrain_nextLoad (i : Nat) (f : Train → Train) : (s.modTrain i f).nextLoad = s.nextLoad := rfl
@[simp] theorem State.modTrain_fleet (i : Nat) (f : Train → Train) : (s.modTrain i f).fleet = s.fleet := rfl
@[simp] theorem State.modTrain_homeQ (i : Nat) (f : Train → Train) : (s.modTrain i f).homeQ = s.homeQ := rfl
@[simp] theorem State.modTrain_departQ (i : Nat) (f : Train → Train) : (s.modTrain i f).departQ = s.departQ := rfl
@[simp] theorem State.modTrain_chargeQ (i : Nat) (f : Train → Train) : (s.modTrain i f).chargeQ = s.chargeQ := rfl
@[simp] theorem State.modTrain_lastGo (i : Nat) (f : Train → Train) : (s.modTrain i f).lastGo = s.lastGo := rfl
@[simp] theorem State.modTrain_nextHot (i : Nat) (f : Train → Train) : (s.modTrain i f).nextHot = s.nextHot := rfl
@[simp] theorem State.modTrain_zones (i : Nat) (f : Train → Train) : (s.modTrain i f).zones = s.zones := rfl
@[simp] theorem State.modTrain_gateLimit (i : Nat) (f : Train → Train) : (s.modTrain i f).gateLimit = s.gateLimit := rfl
@[simp] theorem State.modTrain_grantLimit (i : Nat) (f : Train → Train) : (s.modTrain i f).grantLimit = s.grantLimit := rfl
@[simp] theorem State.modTrain_trainLink (i : Nat) (f : Train → Train) : (s.modTrain i f).trainLink = s.trainLink := rfl
@[simp] theorem State.modTrain_rackLink (i : Nat) (f : Train → Train) : (s.modTrain i f).rackLink = s.rackLink := rfl
@[simp] theorem State.modTrain_requestQueue (i : Nat) (f : Train → Train) : (s.modTrain i f).requestQueue = s.requestQueue := rfl
@[simp] theorem State.modTrain_reportQueue (i : Nat) (f : Train → Train) : (s.modTrain i f).reportQueue = s.reportQueue := rfl
@[simp] theorem State.modTrain_gap (i : Nat) (f : Train → Train) : (s.modTrain i f).gap = s.gap := rfl
@[simp] theorem State.modTrain_lineErrors (i : Nat) (f : Train → Train) : (s.modTrain i f).lineErrors = s.lineErrors := rfl
@[simp] theorem State.modTrain_image (i : Nat) (f : Train → Train) : (s.modTrain i f).image = s.image := rfl
@[simp] theorem State.modTrain_imageCheck (i : Nat) (f : Train → Train) : (s.modTrain i f).imageCheck = s.imageCheck := rfl
@[simp] theorem State.modTrain_badMark (i : Nat) (f : Train → Train) : (s.modTrain i f).badMark = s.badMark := rfl
@[simp] theorem State.modTrain_imageState (i : Nat) (f : Train → Train) : (s.modTrain i f).imageState = s.imageState := rfl
@[simp] theorem State.modTrain_store (i : Nat) (f : Train → Train) : (s.modTrain i f).store = s.store := rfl
@[simp] theorem State.modTrain_causes (i : Nat) (f : Train → Train) : (s.modTrain i f).causes = s.causes := rfl
@[simp] theorem State.modTrain_sent (i : Nat) (f : Train → Train) : (s.modTrain i f).sent = s.sent := rfl
@[simp] theorem State.modTrain_pending (i : Nat) (f : Train → Train) : (s.modTrain i f).pending = s.pending := rfl
@[simp] theorem State.modTrain_trains (i : Nat) (f : Train → Train) : (s.modTrain i f).trains = tmod s.trains i f := rfl

/-! ## modZone -/

@[simp] theorem State.modZone_plantTime (i : Nat) (f : Zone → Zone) : (s.modZone i f).plantTime = s.plantTime := rfl
@[simp] theorem State.modZone_msPart (i : Nat) (f : Zone → Zone) : (s.modZone i f).msPart = s.msPart := rfl
@[simp] theorem State.modZone_stations (i : Nat) (f : Zone → Zone) : (s.modZone i f).stations = s.stations := rfl
@[simp] theorem State.modZone_takt (i : Nat) (f : Zone → Zone) : (s.modZone i f).takt = s.takt := rfl
@[simp] theorem State.modZone_mode (i : Nat) (f : Zone → Zone) : (s.modZone i f).mode = s.mode := rfl
@[simp] theorem State.modZone_lineArray (i : Nat) (f : Zone → Zone) : (s.modZone i f).lineArray = s.lineArray := rfl
@[simp] theorem State.modZone_announced (i : Nat) (f : Zone → Zone) : (s.modZone i f).announced = s.announced := rfl
@[simp] theorem State.modZone_highest (i : Nat) (f : Zone → Zone) : (s.modZone i f).highest = s.highest := rfl
@[simp] theorem State.modZone_slots (i : Nat) (f : Zone → Zone) : (s.modZone i f).slots = s.slots := rfl
@[simp] theorem State.modZone_calls (i : Nat) (f : Zone → Zone) : (s.modZone i f).calls = s.calls := rfl
@[simp] theorem State.modZone_nextCall (i : Nat) (f : Zone → Zone) : (s.modZone i f).nextCall = s.nextCall := rfl
@[simp] theorem State.modZone_fullReported (i : Nat) (f : Zone → Zone) : (s.modZone i f).fullReported = s.fullReported := rfl
@[simp] theorem State.modZone_mask (i : Nat) (f : Zone → Zone) : (s.modZone i f).mask = s.mask := rfl
@[simp] theorem State.modZone_loops (i : Nat) (f : Zone → Zone) : (s.modZone i f).loops = s.loops := rfl
@[simp] theorem State.modZone_nextLoad (i : Nat) (f : Zone → Zone) : (s.modZone i f).nextLoad = s.nextLoad := rfl
@[simp] theorem State.modZone_trains (i : Nat) (f : Zone → Zone) : (s.modZone i f).trains = s.trains := rfl
@[simp] theorem State.modZone_fleet (i : Nat) (f : Zone → Zone) : (s.modZone i f).fleet = s.fleet := rfl
@[simp] theorem State.modZone_homeQ (i : Nat) (f : Zone → Zone) : (s.modZone i f).homeQ = s.homeQ := rfl
@[simp] theorem State.modZone_departQ (i : Nat) (f : Zone → Zone) : (s.modZone i f).departQ = s.departQ := rfl
@[simp] theorem State.modZone_chargeQ (i : Nat) (f : Zone → Zone) : (s.modZone i f).chargeQ = s.chargeQ := rfl
@[simp] theorem State.modZone_lastGo (i : Nat) (f : Zone → Zone) : (s.modZone i f).lastGo = s.lastGo := rfl
@[simp] theorem State.modZone_nextHot (i : Nat) (f : Zone → Zone) : (s.modZone i f).nextHot = s.nextHot := rfl
@[simp] theorem State.modZone_gateLimit (i : Nat) (f : Zone → Zone) : (s.modZone i f).gateLimit = s.gateLimit := rfl
@[simp] theorem State.modZone_grantLimit (i : Nat) (f : Zone → Zone) : (s.modZone i f).grantLimit = s.grantLimit := rfl
@[simp] theorem State.modZone_trainLink (i : Nat) (f : Zone → Zone) : (s.modZone i f).trainLink = s.trainLink := rfl
@[simp] theorem State.modZone_rackLink (i : Nat) (f : Zone → Zone) : (s.modZone i f).rackLink = s.rackLink := rfl
@[simp] theorem State.modZone_requestQueue (i : Nat) (f : Zone → Zone) : (s.modZone i f).requestQueue = s.requestQueue := rfl
@[simp] theorem State.modZone_reportQueue (i : Nat) (f : Zone → Zone) : (s.modZone i f).reportQueue = s.reportQueue := rfl
@[simp] theorem State.modZone_gap (i : Nat) (f : Zone → Zone) : (s.modZone i f).gap = s.gap := rfl
@[simp] theorem State.modZone_lineErrors (i : Nat) (f : Zone → Zone) : (s.modZone i f).lineErrors = s.lineErrors := rfl
@[simp] theorem State.modZone_image (i : Nat) (f : Zone → Zone) : (s.modZone i f).image = s.image := rfl
@[simp] theorem State.modZone_imageCheck (i : Nat) (f : Zone → Zone) : (s.modZone i f).imageCheck = s.imageCheck := rfl
@[simp] theorem State.modZone_badMark (i : Nat) (f : Zone → Zone) : (s.modZone i f).badMark = s.badMark := rfl
@[simp] theorem State.modZone_imageState (i : Nat) (f : Zone → Zone) : (s.modZone i f).imageState = s.imageState := rfl
@[simp] theorem State.modZone_store (i : Nat) (f : Zone → Zone) : (s.modZone i f).store = s.store := rfl
@[simp] theorem State.modZone_causes (i : Nat) (f : Zone → Zone) : (s.modZone i f).causes = s.causes := rfl
@[simp] theorem State.modZone_sent (i : Nat) (f : Zone → Zone) : (s.modZone i f).sent = s.sent := rfl
@[simp] theorem State.modZone_pending (i : Nat) (f : Zone → Zone) : (s.modZone i f).pending = s.pending := rfl
@[simp] theorem State.modZone_zones (i : Nat) (f : Zone → Zone) : (s.modZone i f).zones = tmod s.zones i f := rfl

/-! ## setLink -/

@[simp] theorem State.setLink_plantTime (l : Link) (f : FieldLink) : (s.setLink l f).plantTime = s.plantTime := by cases l <;> rfl
@[simp] theorem State.setLink_msPart (l : Link) (f : FieldLink) : (s.setLink l f).msPart = s.msPart := by cases l <;> rfl
@[simp] theorem State.setLink_stations (l : Link) (f : FieldLink) : (s.setLink l f).stations = s.stations := by cases l <;> rfl
@[simp] theorem State.setLink_takt (l : Link) (f : FieldLink) : (s.setLink l f).takt = s.takt := by cases l <;> rfl
@[simp] theorem State.setLink_mode (l : Link) (f : FieldLink) : (s.setLink l f).mode = s.mode := by cases l <;> rfl
@[simp] theorem State.setLink_lineArray (l : Link) (f : FieldLink) : (s.setLink l f).lineArray = s.lineArray := by cases l <;> rfl
@[simp] theorem State.setLink_announced (l : Link) (f : FieldLink) : (s.setLink l f).announced = s.announced := by cases l <;> rfl
@[simp] theorem State.setLink_highest (l : Link) (f : FieldLink) : (s.setLink l f).highest = s.highest := by cases l <;> rfl
@[simp] theorem State.setLink_slots (l : Link) (f : FieldLink) : (s.setLink l f).slots = s.slots := by cases l <;> rfl
@[simp] theorem State.setLink_calls (l : Link) (f : FieldLink) : (s.setLink l f).calls = s.calls := by cases l <;> rfl
@[simp] theorem State.setLink_nextCall (l : Link) (f : FieldLink) : (s.setLink l f).nextCall = s.nextCall := by cases l <;> rfl
@[simp] theorem State.setLink_fullReported (l : Link) (f : FieldLink) : (s.setLink l f).fullReported = s.fullReported := by cases l <;> rfl
@[simp] theorem State.setLink_mask (l : Link) (f : FieldLink) : (s.setLink l f).mask = s.mask := by cases l <;> rfl
@[simp] theorem State.setLink_loops (l : Link) (f : FieldLink) : (s.setLink l f).loops = s.loops := by cases l <;> rfl
@[simp] theorem State.setLink_nextLoad (l : Link) (f : FieldLink) : (s.setLink l f).nextLoad = s.nextLoad := by cases l <;> rfl
@[simp] theorem State.setLink_trains (l : Link) (f : FieldLink) : (s.setLink l f).trains = s.trains := by cases l <;> rfl
@[simp] theorem State.setLink_fleet (l : Link) (f : FieldLink) : (s.setLink l f).fleet = s.fleet := by cases l <;> rfl
@[simp] theorem State.setLink_homeQ (l : Link) (f : FieldLink) : (s.setLink l f).homeQ = s.homeQ := by cases l <;> rfl
@[simp] theorem State.setLink_departQ (l : Link) (f : FieldLink) : (s.setLink l f).departQ = s.departQ := by cases l <;> rfl
@[simp] theorem State.setLink_chargeQ (l : Link) (f : FieldLink) : (s.setLink l f).chargeQ = s.chargeQ := by cases l <;> rfl
@[simp] theorem State.setLink_lastGo (l : Link) (f : FieldLink) : (s.setLink l f).lastGo = s.lastGo := by cases l <;> rfl
@[simp] theorem State.setLink_nextHot (l : Link) (f : FieldLink) : (s.setLink l f).nextHot = s.nextHot := by cases l <;> rfl
@[simp] theorem State.setLink_zones (l : Link) (f : FieldLink) : (s.setLink l f).zones = s.zones := by cases l <;> rfl
@[simp] theorem State.setLink_gateLimit (l : Link) (f : FieldLink) : (s.setLink l f).gateLimit = s.gateLimit := by cases l <;> rfl
@[simp] theorem State.setLink_grantLimit (l : Link) (f : FieldLink) : (s.setLink l f).grantLimit = s.grantLimit := by cases l <;> rfl
@[simp] theorem State.setLink_requestQueue (l : Link) (f : FieldLink) : (s.setLink l f).requestQueue = s.requestQueue := by cases l <;> rfl
@[simp] theorem State.setLink_reportQueue (l : Link) (f : FieldLink) : (s.setLink l f).reportQueue = s.reportQueue := by cases l <;> rfl
@[simp] theorem State.setLink_gap (l : Link) (f : FieldLink) : (s.setLink l f).gap = s.gap := by cases l <;> rfl
@[simp] theorem State.setLink_lineErrors (l : Link) (f : FieldLink) : (s.setLink l f).lineErrors = s.lineErrors := by cases l <;> rfl
@[simp] theorem State.setLink_image (l : Link) (f : FieldLink) : (s.setLink l f).image = s.image := by cases l <;> rfl
@[simp] theorem State.setLink_imageCheck (l : Link) (f : FieldLink) : (s.setLink l f).imageCheck = s.imageCheck := by cases l <;> rfl
@[simp] theorem State.setLink_badMark (l : Link) (f : FieldLink) : (s.setLink l f).badMark = s.badMark := by cases l <;> rfl
@[simp] theorem State.setLink_imageState (l : Link) (f : FieldLink) : (s.setLink l f).imageState = s.imageState := by cases l <;> rfl
@[simp] theorem State.setLink_store (l : Link) (f : FieldLink) : (s.setLink l f).store = s.store := by cases l <;> rfl
@[simp] theorem State.setLink_causes (l : Link) (f : FieldLink) : (s.setLink l f).causes = s.causes := by cases l <;> rfl
@[simp] theorem State.setLink_sent (l : Link) (f : FieldLink) : (s.setLink l f).sent = s.sent := by cases l <;> rfl
@[simp] theorem State.setLink_pending (l : Link) (f : FieldLink) : (s.setLink l f).pending = s.pending := by cases l <;> rfl

/-! ## lineError -/

@[simp] theorem State.lineError_plantTime : (s.lineError).plantTime = s.plantTime := rfl
@[simp] theorem State.lineError_msPart : (s.lineError).msPart = s.msPart := rfl
@[simp] theorem State.lineError_stations : (s.lineError).stations = s.stations := rfl
@[simp] theorem State.lineError_takt : (s.lineError).takt = s.takt := rfl
@[simp] theorem State.lineError_mode : (s.lineError).mode = s.mode := rfl
@[simp] theorem State.lineError_lineArray : (s.lineError).lineArray = s.lineArray := rfl
@[simp] theorem State.lineError_announced : (s.lineError).announced = s.announced := rfl
@[simp] theorem State.lineError_highest : (s.lineError).highest = s.highest := rfl
@[simp] theorem State.lineError_slots : (s.lineError).slots = s.slots := rfl
@[simp] theorem State.lineError_calls : (s.lineError).calls = s.calls := rfl
@[simp] theorem State.lineError_nextCall : (s.lineError).nextCall = s.nextCall := rfl
@[simp] theorem State.lineError_fullReported : (s.lineError).fullReported = s.fullReported := rfl
@[simp] theorem State.lineError_mask : (s.lineError).mask = s.mask := rfl
@[simp] theorem State.lineError_loops : (s.lineError).loops = s.loops := rfl
@[simp] theorem State.lineError_nextLoad : (s.lineError).nextLoad = s.nextLoad := rfl
@[simp] theorem State.lineError_trains : (s.lineError).trains = s.trains := rfl
@[simp] theorem State.lineError_fleet : (s.lineError).fleet = s.fleet := rfl
@[simp] theorem State.lineError_homeQ : (s.lineError).homeQ = s.homeQ := rfl
@[simp] theorem State.lineError_departQ : (s.lineError).departQ = s.departQ := rfl
@[simp] theorem State.lineError_chargeQ : (s.lineError).chargeQ = s.chargeQ := rfl
@[simp] theorem State.lineError_lastGo : (s.lineError).lastGo = s.lastGo := rfl
@[simp] theorem State.lineError_nextHot : (s.lineError).nextHot = s.nextHot := rfl
@[simp] theorem State.lineError_zones : (s.lineError).zones = s.zones := rfl
@[simp] theorem State.lineError_gateLimit : (s.lineError).gateLimit = s.gateLimit := rfl
@[simp] theorem State.lineError_grantLimit : (s.lineError).grantLimit = s.grantLimit := rfl
@[simp] theorem State.lineError_trainLink : (s.lineError).trainLink = s.trainLink := rfl
@[simp] theorem State.lineError_rackLink : (s.lineError).rackLink = s.rackLink := rfl
@[simp] theorem State.lineError_requestQueue : (s.lineError).requestQueue = s.requestQueue := rfl
@[simp] theorem State.lineError_reportQueue : (s.lineError).reportQueue = s.reportQueue := rfl
@[simp] theorem State.lineError_gap : (s.lineError).gap = s.gap := rfl
@[simp] theorem State.lineError_image : (s.lineError).image = s.image := rfl
@[simp] theorem State.lineError_imageCheck : (s.lineError).imageCheck = s.imageCheck := rfl
@[simp] theorem State.lineError_badMark : (s.lineError).badMark = s.badMark := rfl
@[simp] theorem State.lineError_imageState : (s.lineError).imageState = s.imageState := rfl
@[simp] theorem State.lineError_store : (s.lineError).store = s.store := rfl
@[simp] theorem State.lineError_causes : (s.lineError).causes = s.causes := rfl
@[simp] theorem State.lineError_sent : (s.lineError).sent = s.sent := rfl
@[simp] theorem State.lineError_pending : (s.lineError).pending = s.pending := rfl
@[simp] theorem State.lineError_lineErrors : s.lineError.lineErrors = raiseCount s.lineErrors := rfl

end Sys2Proof.Machine
end

