-- ==== Sys2Proof/Laws/Tables.lean ====
section
/-! SUPPORT. What the table operations do, said once each. -/

namespace Sys2Proof.Machine

variable {α β : Type}

/-! ## Reading after a change -/

@[simp] theorem tget_tset_self (t : Table α) (k : Nat) (a : α) : tget (tset t k a) k = some a := by
  induction t with
  | nil => simp [tset, tget]
  | cons e t ih =>
    obtain ⟨i, b⟩ := e
    simp only [tset]
    split
    · simp [tget]
    · split
      · simp [tget]
      · rename_i h
        simp [tget, ih, Ne.symm h]

theorem tget_tset_other (t : Table α) {j k : Nat} (a : α) (h : j ≠ k) : tget (tset t k a) j = tget t j := by
  induction t with
  | nil => simp [tset, tget, Ne.symm h]
  | cons e t ih =>
    obtain ⟨i, b⟩ := e
    simp only [tset]
    split
    · simp [tget, Ne.symm h]
    · split
      · rename_i hk
        subst hk
        simp [tget, Ne.symm h]
      · simp only [tget, ih]

theorem tget_tmod (t : Table α) (j k : Nat) (f : α → α) :
    tget (tmod t k f) j = if j = k then (tget t j).map f else tget t j := by
  induction t with
  | nil => simp [tmod, tget]
  | cons e t ih =>
    obtain ⟨i, b⟩ := e
    simp only [tmod, List.map_cons] at ih ⊢
    by_cases hik : i = k
    · subst hik
      by_cases hj : i = j
      · subst hj; simp [tget]
      · simp only [tget, if_true, if_neg hj]; exact ih
    · simp only [if_neg hik]
      by_cases hj : i = j
      · subst hj; simp [tget, hik]
      · simp only [tget, if_neg hj]; exact ih

@[simp] theorem tget_tmod_self (t : Table α) (k : Nat) (f : α → α) : tget (tmod t k f) k = (tget t k).map f := by simp [tget_tmod]

theorem tget_tmod_other (t : Table α) {j k : Nat} (f : α → α) (h : j ≠ k) : tget (tmod t k f) j = tget t j := by simp [tget_tmod, h]

@[simp] theorem tget_tdel_self (t : Table α) (k : Nat) : tget (tdel t k) k = none := by
  induction t with
  | nil => simp [tdel, tget]
  | cons e t ih =>
    simp only [tdel, List.filter_cons] at ih ⊢
    split
    · rename_i h
      have : e.1 ≠ k := by simpa using h
      simp only [tget, if_neg this]; exact ih
    · exact ih

theorem tget_tdel_other (t : Table α) {j k : Nat} (h : j ≠ k) : tget (tdel t k) j = tget t j := by
  induction t with
  | nil => simp [tdel, tget]
  | cons e t ih =>
    simp only [tdel, List.filter_cons] at ih ⊢
    split
    · simp only [tget, ih]
    · rename_i hk
      have he : e.1 = k := by simpa using hk
      have : e.1 ≠ j := by omega
      simp only [tget, if_neg this]; exact ih

@[simp] theorem tget_tmap (f : Nat → α → β) (t : Table α) (k : Nat) : tget (tmap f t) k = (tget t k).map (f k) := by
  induction t with
  | nil => simp [tmap, tget]
  | cons e t ih =>
    simp only [tmap, List.map_cons] at ih ⊢
    by_cases h : e.1 = k
    · simp [tget, h]
    · simp only [tget, if_neg h]; exact ih

theorem tget_mem {t : Table α} {k : Nat} {a : α} (h : tget t k = some a) : (k, a) ∈ t := by
  induction t with
  | nil => simp [tget] at h
  | cons e t ih =>
    simp only [tget] at h
    split at h
    · simp only [Option.some.injEq] at h; subst h; rename_i hk; subst hk; exact List.mem_cons_self
    · exact List.mem_cons_of_mem _ (ih h)

theorem tget_isSome_iff (t : Table α) (k : Nat) : (tget t k).isSome = true ↔ k ∈ tkeys t := by
  induction t with
  | nil => simp [tget, tkeys]
  | cons e t ih =>
    simp only [tkeys, List.map_cons, List.mem_cons] at ih ⊢
    by_cases h : e.1 = k
    · simp [tget, h]
    · simp only [tget, if_neg h, ih]; constructor
      · exact Or.inr
      · rintro (rfl | h')
        · exact absurd rfl h
        · exact h'

theorem tget_append (t u : Table α) (k : Nat) : tget (t ++ u) k = (tget t k).or (tget u k) := by
  induction t with
  | nil => simp [tget]
  | cons e t ih =>
    simp only [List.cons_append, tget]
    split <;> simp [ih]

/-! ## Ids -/

@[simp] theorem tkeys_tmod (t : Table α) (k : Nat) (f : α → α) : tkeys (tmod t k f) = tkeys t := by
  simp only [tkeys, tmod, List.map_map]
  apply List.map_congr_left
  intro e _
  simp only [Function.comp]
  split <;> rfl

@[simp] theorem tkeys_tmap (f : Nat → α → β) (t : Table α) : tkeys (tmap f t) = tkeys t := by
  simp [tkeys, tmap, List.map_map, Function.comp_def]

theorem tkeys_tdel (t : Table α) (k : Nat) : tkeys (tdel t k) = (tkeys t).filter (· != k) := by
  simp [tkeys, tdel, List.filter_map, Function.comp_def]

@[simp] theorem tkeys_append (t u : Table α) : tkeys (t ++ u) = tkeys t ++ tkeys u := by simp [tkeys]

/-! ## The one form -/

theorem tsorted_iff (t : Table α) : tsorted t = true ↔ (tkeys t).Pairwise (· < ·) := by
  induction t with
  | nil => simp [tsorted, tkeys]
  | cons a t ih =>
    cases t with
    | nil => simp [tsorted, tkeys]
    | cons b t =>
      simp only [tsorted, Bool.and_eq_true, decide_eq_true_eq, ih, tkeys, List.map_cons, List.pairwise_cons,
        List.mem_cons, forall_eq_or_imp]
      constructor
      · rintro ⟨h, h1, h2⟩
        exact ⟨⟨h, fun c hc => Nat.lt_trans h (h1 c hc)⟩, h1, h2⟩
      · rintro ⟨⟨h, -⟩, h1, h2⟩
        exact ⟨h, h1, h2⟩

@[simp] theorem tsorted_tmod (t : Table α) (k : Nat) (f : α → α) : tsorted (tmod t k f) = tsorted t := by
  rw [Bool.eq_iff_iff, tsorted_iff, tsorted_iff, tkeys_tmod]

@[simp] theorem tsorted_tmap (f : Nat → α → β) (t : Table α) : tsorted (tmap f t) = tsorted t := by
  rw [Bool.eq_iff_iff, tsorted_iff, tsorted_iff, tkeys_tmap]

theorem tsorted_tdel {t : Table α} (k : Nat) (h : tsorted t = true) : tsorted (tdel t k) = true := by
  rw [tsorted_iff] at h ⊢
  rw [tkeys_tdel]
  exact h.filter _

theorem tkeys_tset_mem (t : Table α) (k : Nat) (a : α) {j : Nat} (h : j ∈ tkeys (tset t k a)) : j = k ∨ j ∈ tkeys t := by
  by_cases hj : j = k
  · exact .inl hj
  · rw [← tget_isSome_iff, tget_tset_other _ _ hj, tget_isSome_iff] at h
    exact .inr h

theorem tsorted_tset {t : Table α} (k : Nat) (a : α) (h : tsorted t = true) : tsorted (tset t k a) = true := by
  rw [tsorted_iff] at h ⊢
  induction t with
  | nil => simp [tset, tkeys]
  | cons e t ih =>
    obtain ⟨i, b⟩ := e
    simp only [tkeys, List.map_cons, List.pairwise_cons] at h
    simp only [tset]
    split
    · rename_i hk
      simp only [tkeys, List.map_cons, List.pairwise_cons, List.mem_cons, forall_eq_or_imp]
      exact ⟨⟨hk, fun c hc => Nat.lt_trans hk (h.1 c hc)⟩, h.1, h.2⟩
    · split
      · rename_i hk
        subst hk
        simpa [tkeys, List.pairwise_cons] using h
      · rename_i h1 h2
        have hlt : i < k := by omega
        simp only [tkeys, List.map_cons, List.pairwise_cons]
        refine ⟨fun c hc => ?_, ih h.2⟩
        rcases tkeys_tset_mem t k a hc with rfl | hc
        · exact hlt
        · exact h.1 c hc

/-- In a table with distinct ids an entry is what its id reads as. -/
theorem tget_of_mem {t : Table α} (h : (tkeys t).Nodup) {k : Nat} {a : α} (hm : (k, a) ∈ t) : tget t k = some a := by
  induction t with
  | nil => cases hm
  | cons e t ih =>
    simp only [tkeys, List.map_cons, List.nodup_cons] at h
    rcases List.mem_cons.mp hm with rfl | hm
    · simp [tget]
    · have : e.1 ≠ k := by
        rintro rfl
        exact h.1 (List.mem_map.mpr ⟨_, hm, rfl⟩)
      simp only [tget, if_neg this]
      exact ih h.2 hm

theorem tkeys_nodup_of_sorted {t : Table α} (h : tsorted t = true) : (tkeys t).Nodup := by
  rw [tsorted_iff] at h
  exact h.imp Nat.ne_of_lt

end Sys2Proof.Machine
end

