-- ==== Sys2Proof/Laws/SlotFrames.lean ====
section
/-! SUPPORT. What reports, calls and recomputations leave alone: everything beyond the Slot Table, the call records and the reports. -/

namespace Sys2Proof.Machine

variable {s : State}

/-- A frame kept by every step of a fold is kept by the fold. -/
theorem foldl_keeps {α σ : Type} {P : σ → σ → Prop} (refl : ∀ s, P s s) (trans : ∀ {a b c}, P a b → P b c → P a c)
    (f : σ → α → σ) (hf : ∀ s a, P s (f s a)) (l : List α) (s : σ) : P s (l.foldl f s) := by
  induction l generalizing s with
  | nil => exact refl s
  | cons a l ih => exact trans (hf s a) (ih (f s a))

/-- A view of the state that every step of a fold keeps. -/
theorem foldl_view {α σ β : Type} (g : σ → β) (f : σ → α → σ) (hf : ∀ s a, g (f s a) = g s) (l : List α) (s : σ) :
    g (l.foldl f s) = g s := by
  induction l generalizing s with
  | nil => rfl
  | cons a l ih => rw [List.foldl_cons, ih, hf]

/-! ## Reports and calls -/

@[simp] theorem beyondSlots_report (k : ReportKind) (b : Body) : (s.report k b).beyondSlots = s.beyondSlots := by
  unfold State.report; split <;> rfl
@[simp] theorem beyondSlots_modSlot (i : Nat) (f : Slot → Slot) : (s.modSlot i f).beyondSlots = s.beyondSlots := rfl
@[simp] theorem beyondSlots_modCall (i : Nat) (f : Call → Call) : (s.modCall i f).beyondSlots = s.beyondSlots := rfl
@[simp] theorem beyondSlots_reportRaised (a : RaiseAction) (i b : Nat) (m : Option Nat) :
    (s.reportRaised a i b m).beyondSlots = s.beyondSlots := by
  unfold State.reportRaised; split <;> simp
@[simp] theorem beyondSlots_removeCall (i : Nat) : (s.removeCall i).beyondSlots = s.beyondSlots := rfl
@[simp] theorem beyondSlots_finishCall (i : Nat) (o : CallOutcome) : (s.finishCall i o).beyondSlots = s.beyondSlots := by
  unfold State.finishCall; split <;> simp
@[simp] theorem beyondSlots_listFull (i : Nat) (c : CallClass) : (s.listFull i c).beyondSlots = s.beyondSlots := by
  unfold State.listFull
  split
  · rfl
  · show ({ (s.report _ _) with fullReported := true } : State).beyondSlots = _
    exact beyondSlots_report (s := s) _ _
@[simp] theorem beyondSlots_raiseCall (i : Nat) (c : CallClass) (n p d : Nat) (set : Option (Nat × Nat)) :
    (s.raiseCall i c n p d set).1.beyondSlots = s.beyondSlots := by
  unfold State.raiseCall
  split
  · simp only [beyondSlots_reportRaised]; rfl
  · simp
@[simp] theorem beyondSlots_enlargeCall (i n : Nat) : (s.enlargeCall i n).beyondSlots = s.beyondSlots := by
  unfold State.enlargeCall; split <;> simp
@[simp] theorem beyondSlots_askCall (i : Nat) (sl : Slot) (c : CallClass) (n : Nat) :
    (s.askCall i sl c n).1.beyondSlots = s.beyondSlots := by
  unfold State.askCall; split <;> simp
@[simp] theorem beyondSlots_reportFlag (i : Nat) (f : Option (Nat × Bool)) (c : Cause) :
    (s.reportFlag i f c).beyondSlots = s.beyondSlots := by
  unfold State.reportFlag; split <;> simp
@[simp] theorem beyondSlots_reportChange (i f : Nat) (o n : Bool) (c : Cause) :
    (s.reportChange i f o n c).beyondSlots = s.beyondSlots := by
  unfold State.reportChange; split <;> simp
@[simp] theorem beyondSlots_reportFlags (i : Nat) (e r : Cause) (o : SlotFlags) :
    (s.reportFlags i e r o).beyondSlots = s.beyondSlots := by
  unfold State.reportFlags; split <;> simp
@[simp] theorem beyondSlots_judgeOver (i : Nat) : (s.judgeOver i).beyondSlots = s.beyondSlots := by
  unfold State.judgeOver; split
  · rfl
  · split <;> simp

/-! ## Recomputation -/

@[simp] theorem beyondSlots_writeCoverage (i : Nat) : (s.writeCoverage i).beyondSlots = s.beyondSlots := rfl
@[simp] theorem beyondSlots_askCover (i : Nat) : (s.askCover i).1.beyondSlots = s.beyondSlots := by
  unfold State.askCover
  split
  · rfl
  · split
    · split
      · dsimp only; split <;> simp
      · dsimp only; split <;> simp
    · rfl
@[simp] theorem beyondSlots_retryOwed (i : Nat) : (s.retryOwed i).1.beyondSlots = s.beyondSlots := by
  unfold State.retryOwed
  split
  · rfl
  · split
    · split
      · rfl
      · dsimp only; split <;> simp
    · rfl
@[simp] theorem beyondSlots_raiseSet (i : Nat) (sl : Slot) (bs : List Build) :
    (s.raiseSet i sl bs).1.beyondSlots = s.beyondSlots := by
  unfold State.raiseSet
  split
  · rename_i b0 b1 _ _
    have h := beyondSlots_raiseCall (s := s) i .seq 1 bs.length (max sl.cr ((s.latestSetDue i).getD sl.cr)) (some (b0.serial, b1.serial))
    dsimp only
    split
    · rename_i s1 c he; rw [he] at h; simpa using h
    · rename_i s1 he; rw [he] at h; simpa using h
  · rfl
@[simp] theorem beyondSlots_checkSet (i : Nat) : (s.checkSet i).1.beyondSlots = s.beyondSlots := by
  unfold State.checkSet
  split
  · rfl
  · dsimp only; split <;> simp
@[simp] theorem beyondSlots_followUp (i : Nat) : (s.followUp i).1.beyondSlots = s.beyondSlots := by
  unfold State.followUp
  dsimp only
  split
  · simp
  · split <;> simp
@[simp] theorem beyondSlots_coverChain (n i : Nat) (e r : Cause) (o : SlotFlags) (s : State) :
    (coverChain n i e r o s).beyondSlots = s.beyondSlots := by
  induction n generalizing e r o s with
  | zero => rfl
  | succ n ih =>
    unfold coverChain
    dsimp only
    split
    · rw [ih]; simp
    · simp
@[simp] theorem beyondSlots_recompute (i : Nat) (c : Cause) : (s.recompute i c).beyondSlots = s.beyondSlots := by
  unfold State.recompute; split <;> simp
@[simp] theorem beyondSlots_recomputeAll (c : Cause) : (s.recomputeAll c).beyondSlots = s.beyondSlots :=
  foldl_view State.beyondSlots _ (fun _ _ => by simp) _ _
@[simp] theorem beyondSlots_settleSlot (i : Nat) (e r : Cause) (o : SlotFlags) :
    (s.settleSlot i e r o).beyondSlots = s.beyondSlots := by
  unfold State.settleSlot; split <;> simp
@[simp] theorem beyondSlots_callsChanged (i : Nat) : (s.callsChanged i).beyondSlots = s.beyondSlots := by
  simp [State.callsChanged]
@[simp] theorem beyondSlots_callsChangedAt (l : List Nat) : (s.callsChangedAt l).beyondSlots = s.beyondSlots :=
  foldl_view State.beyondSlots _ (fun _ _ => by simp) _ _
@[simp] theorem beyondSlots_slotEvent (i : Nat) (e r : Cause) (f : Slot → Slot) :
    (s.slotEvent i e r f).beyondSlots = s.beyondSlots := by
  simp [State.slotEvent]

/-! ## Events at a slot -/

@[simp] theorem beyondSlots_consume (b : Build) (i : Nat) : (s.consume b i).beyondSlots = s.beyondSlots := by
  unfold State.consume
  split
  · rfl
  · dsimp only; repeat' split
    all_goals simp
@[simp] theorem beyondSlots_askPull (i : Nat) : (s.askPull i).beyondSlots = s.beyondSlots := by
  unfold State.askPull
  split
  · rfl
  · split
    · dsimp only; split <;> simp
    · rfl
@[simp] theorem beyondSlots_pull (i : Nat) : (s.pull i).beyondSlots = s.beyondSlots := by
  unfold State.pull
  split
  · rfl
  · split <;> simp
@[simp] theorem beyondSlots_trimCall (i : Nat) (c : CallClass) : (s.trimCall i c).1.beyondSlots = s.beyondSlots := by
  unfold State.trimCall
  split
  · dsimp only; split
    · rfl
    · simp only [beyondSlots_report]; split <;> simp
  · rfl
@[simp] theorem beyondSlots_trim (i : Nat) : (s.trim i).1.beyondSlots = s.beyondSlots := by simp [State.trim]
@[simp] theorem beyondSlots_tallyTrim (i v : Nat) : (s.tallyTrim i v).1.beyondSlots = s.beyondSlots := by simp [State.tallyTrim]
@[simp] theorem beyondSlots_tally (i v : Nat) : (s.tally i v).1.beyondSlots = s.beyondSlots := by
  unfold State.tally; dsimp only; split <;> simp
@[simp] theorem beyondSlots_hotAccepted (i c : Nat) : (s.hotAccepted i c).beyondSlots = s.beyondSlots := by simp [State.hotAccepted]
@[simp] theorem beyondSlots_hotDelivered (i c : Nat) : (s.hotDelivered i c).beyondSlots = s.beyondSlots := by
  simp [State.hotDelivered]
@[simp] theorem beyondSlots_hotAbandoned (i c : Nat) : (s.hotAbandoned i c).beyondSlots = s.beyondSlots := by
  simp [State.hotAbandoned]

end Sys2Proof.Machine
end

