-- ==== Sys2Proof/Laws/Stocks.lean ====
section
/-! SUPPORT. What a recomputation leaves of the slots: definitions, stock and baselines, and which slots there are. -/

namespace Sys2Proof.Machine

variable {s : State}

theorem stocks_congr {s t : State} (h : t.slots = s.slots) : t.stocks = s.stocks := by simp [State.stocks, h]

/-- The stock a slot id reads as. -/
theorem tget_stocks (s : State) (i : Nat) : tget s.stocks i = (tget s.slots i).map Slot.stock := by simp [State.stocks]

theorem tkeys_slots_of_stocks {s t : State} (h : t.stocks = s.stocks) : tkeys t.slots = tkeys s.slots := by
  have := congrArg tkeys h
  simpa [State.stocks] using this

/-- A change of one slot that keeps its stock keeps every stock. -/
theorem stocks_modSlot (i : Nat) (f : Slot → Slot) (hf : ∀ x, (f x).stock = x.stock) : (s.modSlot i f).stocks = s.stocks := by
  simp only [State.stocks, tmap, State.modSlot, tmod, List.map_map]
  apply List.map_congr_left
  intro e _
  simp only [Function.comp]
  split <;> simp [hf]

@[simp] theorem stocks_report (k : ReportKind) (b : Body) : (s.report k b).stocks = s.stocks := stocks_congr (by simp)
@[simp] theorem stocks_modCall (i : Nat) (f : Call → Call) : (s.modCall i f).stocks = s.stocks := rfl
@[simp] theorem reportRaised_slots (a : RaiseAction) (i b : Nat) (m : Option Nat) : (s.reportRaised a i b m).slots = s.slots := by
  unfold State.reportRaised; split <;> simp
@[simp] theorem listFull_slots (i : Nat) (c : CallClass) : (s.listFull i c).slots = s.slots := by
  unfold State.listFull; split
  · rfl
  · show (s.report _ _).slots = _
    simp
@[simp] theorem raiseCall_slots (i : Nat) (c : CallClass) (n p d : Nat) (set : Option (Nat × Nat)) :
    (s.raiseCall i c n p d set).1.slots = s.slots := by
  unfold State.raiseCall; split
  · simp only [reportRaised_slots]
  · simp
@[simp] theorem enlargeCall_slots (i n : Nat) : (s.enlargeCall i n).slots = s.slots := by
  unfold State.enlargeCall; split
  · rfl
  · simp
@[simp] theorem askCall_slots (i : Nat) (sl : Slot) (c : CallClass) (n : Nat) : (s.askCall i sl c n).1.slots = s.slots := by
  unfold State.askCall; split <;> simp
@[simp] theorem removeCall_slots (i : Nat) : (s.removeCall i).slots = s.slots := rfl
@[simp] theorem finishCall_slots (i : Nat) (o : CallOutcome) : (s.finishCall i o).slots = s.slots := by
  unfold State.finishCall; split
  · rfl
  · simp
@[simp] theorem reportFlag_slots (i : Nat) (f : Option (Nat × Bool)) (c : Cause) : (s.reportFlag i f c).slots = s.slots := by
  unfold State.reportFlag; split
  · rfl
  · simp
@[simp] theorem reportChange_slots (i f : Nat) (o n : Bool) (c : Cause) : (s.reportChange i f o n c).slots = s.slots := by
  unfold State.reportChange; split <;> simp
@[simp] theorem reportFlags_slots (i : Nat) (e r : Cause) (o : SlotFlags) : (s.reportFlags i e r o).slots = s.slots := by
  unfold State.reportFlags; split <;> simp

@[simp] theorem stocks_judgeOver (i : Nat) : (s.judgeOver i).stocks = s.stocks := by
  unfold State.judgeOver; split
  · rfl
  · split
    · exact stocks_modSlot _ _ fun _ => rfl
    · rfl
@[simp] theorem stocks_writeCoverage (i : Nat) : (s.writeCoverage i).stocks = s.stocks := stocks_modSlot _ _ fun _ => rfl
@[simp] theorem askCover_slots (i : Nat) : (s.askCover i).1.slots = s.slots := by
  unfold State.askCover
  split
  · rfl
  · split
    · split
      · dsimp only; split <;> simp
      · dsimp only; split <;> simp
    · rfl
@[simp] theorem stocks_retryOwed (i : Nat) : (s.retryOwed i).1.stocks = s.stocks := by
  unfold State.retryOwed
  split
  · rfl
  · split
    · split
      · rfl
      · dsimp only; split
        · refine (stocks_congr (askCall_slots _ _ _ _)).trans (stocks_modSlot i _ ?_)
          exact fun _ => rfl
        · exact stocks_modSlot _ _ fun _ => rfl
    · rfl
@[simp] theorem stocks_raiseSet (i : Nat) (sl : Slot) (bs : List Build) : (s.raiseSet i sl bs).1.stocks = s.stocks := by
  unfold State.raiseSet
  split
  · rename_i b0 b1 _ _
    have h := raiseCall_slots (s := s) i .seq 1 bs.length (max sl.cr ((s.latestSetDue i).getD sl.cr)) (some (b0.serial, b1.serial))
    dsimp only
    split
    · rename_i s1 c he; rw [he] at h
      refine (stocks_modSlot (s := s1) i _ ?_).trans (stocks_congr h)
      exact fun _ => rfl
    · rename_i s1 he; rw [he] at h; exact stocks_congr h
  · rfl
@[simp] theorem stocks_checkSet (i : Nat) : (s.checkSet i).1.stocks = s.stocks := by
  unfold State.checkSet
  split
  · rfl
  · dsimp only; split <;> simp
@[simp] theorem stocks_followUp (i : Nat) : (s.followUp i).1.stocks = s.stocks := by
  have h : (s.askCover i).1.stocks = s.stocks := stocks_congr (by simp)
  unfold State.followUp
  dsimp only
  split
  · exact h
  · split
    · rw [stocks_retryOwed, h]
    · rw [stocks_checkSet, stocks_retryOwed, h]
@[simp] theorem stocks_reportFlags (i : Nat) (e r : Cause) (o : SlotFlags) : (s.reportFlags i e r o).stocks = s.stocks :=
  stocks_congr (by simp)
@[simp] theorem stocks_coverChain (n i : Nat) (e r : Cause) (o : SlotFlags) (s : State) :
    (coverChain n i e r o s).stocks = s.stocks := by
  induction n generalizing e r o s with
  | zero => rfl
  | succ n ih =>
    unfold coverChain
    dsimp only
    split
    · rw [ih]; simp
    · simp
@[simp] theorem stocks_recompute (i : Nat) (c : Cause) : (s.recompute i c).stocks = s.stocks := by
  unfold State.recompute; split <;> simp
@[simp] theorem stocks_recomputeAll (c : Cause) : (s.recomputeAll c).stocks = s.stocks :=
  foldl_view State.stocks _ (fun _ _ => by simp) _ _
@[simp] theorem stocks_settleSlot (i : Nat) (e r : Cause) (o : SlotFlags) : (s.settleSlot i e r o).stocks = s.stocks := by
  unfold State.settleSlot; split <;> simp
@[simp] theorem stocks_callsChanged (i : Nat) : (s.callsChanged i).stocks = s.stocks := by simp [State.callsChanged]
@[simp] theorem stocks_callsChangedAt (l : List Nat) : (s.callsChangedAt l).stocks = s.stocks :=
  foldl_view State.stocks _ (fun _ _ => by simp) _ _
/-- An event at a slot changes stocks by its own change of the record, and by that alone. -/
theorem stocks_slotEvent (i : Nat) (e r : Cause) (f : Slot → Slot) : (s.slotEvent i e r f).stocks = (s.modSlot i f).stocks := by
  simp [State.slotEvent]

end Sys2Proof.Machine
end

