-- ==== Sys2Proof/Laws/LoopFrames.lean ====
section
/-! SUPPORT. What the loops' chain of openings, closes and couplings leaves alone. -/

namespace Sys2Proof.Machine

variable {s : State}

/-- What a recomputation leaves, the loops' effects leave too. -/
theorem beyondLoops_congr {s t : State} (h : t.beyondSlots = s.beyondSlots) : t.beyondLoops = s.beyondLoops := by
  simp [State.beyondLoops, h]

theorem beyondTrains_congr {s t : State} (h : t.beyondLoops = s.beyondLoops) : t.beyondTrains = s.beyondTrains := by
  simp [State.beyondTrains, h]

theorem beyondZones_congr {s t : State} (h : t.beyondTrains = s.beyondTrains) : t.beyondZones = s.beyondZones := by
  simp [State.beyondZones, h]

@[simp] theorem beyondLoops_report (k : ReportKind) (b : Body) : (s.report k b).beyondLoops = s.beyondLoops :=
  beyondLoops_congr (by simp)
@[simp] theorem beyondLoops_modCall (i : Nat) (f : Call → Call) : (s.modCall i f).beyondLoops = s.beyondLoops := rfl
@[simp] theorem beyondLoops_modLoop (i : Nat) (f : LoopRec → LoopRec) : (s.modLoop i f).beyondLoops = s.beyondLoops := rfl
@[simp] theorem beyondLoops_modTrain (i : Nat) (f : Train → Train) : (s.modTrain i f).beyondLoops = s.beyondLoops := rfl
@[simp] theorem beyondLoops_finishCall (i : Nat) (o : CallOutcome) : (s.finishCall i o).beyondLoops = s.beyondLoops :=
  beyondLoops_congr (by simp)
@[simp] theorem beyondLoops_callsChanged (i : Nat) : (s.callsChanged i).beyondLoops = s.beyondLoops := beyondLoops_congr (by simp)
@[simp] theorem beyondLoops_callsChangedAt (l : List Nat) : (s.callsChangedAt l).beyondLoops = s.beyondLoops :=
  beyondLoops_congr (by simp)
@[simp] theorem beyondLoops_recompute (i : Nat) (c : Cause) : (s.recompute i c).beyondLoops = s.beyondLoops :=
  beyondLoops_congr (by simp)
@[simp] theorem beyondLoops_recomputeAll (c : Cause) : (s.recomputeAll c).beyondLoops = s.beyondLoops := beyondLoops_congr (by simp)
@[simp] theorem beyondLoops_reportWindow (l : Nat) (e : WindowEvent) (c : WindowCause) :
    (s.reportWindow l e c).beyondLoops = s.beyondLoops := by
  unfold State.reportWindow; split <;> simp
@[simp] theorem beyondLoops_reportLoad (l : Nat) (o : LoadOutcome) (ld : Load) (x : Option Nat) :
    (s.reportLoad l o ld x).beyondLoops = s.beyondLoops := by
  unfold State.reportLoad; split <;> simp
@[simp] theorem beyondLoops_reportCouple (t : Nat) (st : TrainState) (e : Nat) (ld : Load) (o : Option Nat) :
    (s.reportCouple t st e ld o).beyondLoops = s.beyondLoops := by simp [State.reportCouple]

@[simp] theorem beyondLoops_openTest (l : Nat) : (s.openTest l).1.beyondLoops = s.beyondLoops := by
  unfold State.openTest; split
  · rfl
  · split <;> simp
@[simp] theorem beyondLoops_askClose (l : Nat) (c : WindowCause) : (s.askClose l c).1.beyondLoops = s.beyondLoops := by
  unfold State.askClose; split
  · rfl
  · split <;> simp
theorem beyondLoops_foldCalls (f : Nat → Call → Call) (l : List Nat) (s : State) :
    (l.foldl (fun s c => s.modCall c (f c)) s).beyondLoops = s.beyondLoops :=
  foldl_view State.beyondLoops _ (fun _ _ => by simp) _ _
theorem beyondLoops_finishCalls (o : CallOutcome) (l : List Nat) (s : State) :
    (l.foldl (fun s c => s.finishCall c o) s).beyondLoops = s.beyondLoops :=
  foldl_view State.beyondLoops _ (fun _ _ => by simp) _ _
@[simp] theorem beyondLoops_takeClose (l : Nat) (c : WindowCause) : (s.takeClose l c).1.beyondLoops = s.beyondLoops := by
  unfold State.takeClose
  split
  · rfl
  · dsimp only
    split
    · simp
    · dsimp only
      have key : ∀ (u : State) (ps : List Placed) (g : Placed → Call → Call),
          (ps.foldl (fun s p => s.modCall p.id (g p)) u).beyondLoops = u.beyondLoops :=
        fun u ps g => foldl_view State.beyondLoops _ (fun _ _ => by simp) _ _
      have key2 : ∀ (u : State) (n : Nat), ({ u with nextLoad := n } : State).beyondLoops = u.beyondLoops := fun _ _ => rfl
      split
      · simp only [beyondLoops_callsChangedAt, beyondLoops_reportLoad, beyondLoops_modLoop, beyondLoops_reportWindow]
        rw [key2, key]
      · simp only [beyondLoops_callsChangedAt, beyondLoops_reportLoad, beyondLoops_modLoop, beyondLoops_reportWindow]
        rw [key2, key]
@[simp] theorem beyondLoops_couple (l : Nat) : (s.couple l).1.beyondLoops = s.beyondLoops := by
  unfold State.couple
  split
  · split
    · split
      · rfl
      · dsimp only
        rw [beyondLoops_callsChangedAt, beyondLoops_foldCalls (fun _ x => if x.state = .planned then { x with state := .loaded } else x),
          beyondLoops_finishCalls]
        simp only [beyondLoops_reportCouple, beyondLoops_modLoop, beyondLoops_modTrain]
        rfl
    · rfl
  · rfl
@[simp] theorem beyondLoops_runTask (l : Nat) (t : LoopTask) : (s.runTask l t).1.beyondLoops = s.beyondLoops := by
  cases t <;> simp [State.runTask]
@[simp] theorem beyondLoops_runTasks (n : Nat) (ts : List (Nat × LoopTask)) (s : State) :
    (runTasks n ts s).beyondLoops = s.beyondLoops := by
  induction n generalizing ts s with
  | zero => rfl
  | succ n ih =>
    cases ts with
    | nil => rfl
    | cons e rest => unfold runTasks; dsimp only; rw [ih]; simp
@[simp] theorem beyondLoops_settleLoops (ts : List (Nat × LoopTask)) : (s.settleLoops ts).beyondLoops = s.beyondLoops := by
  simp [State.settleLoops]
@[simp] theorem beyondLoops_stage (l : Nat) (ld : Load) : (s.stage l ld).beyondLoops = s.beyondLoops := by simp [State.stage]
@[simp] theorem beyondLoops_voidCall (c : Nat) : (s.voidCall c).beyondLoops = s.beyondLoops := rfl
@[simp] theorem beyondLoops_dissolveAt (l : Nat) : (s.dissolveAt l).1.beyondLoops = s.beyondLoops := by
  unfold State.dissolveAt
  split
  · rfl
  · split
    · rfl
    · split
      · dsimp only
        simp only [beyondLoops_reportLoad, beyondLoops_modLoop]
        exact beyondLoops_finishCalls _ _ _
      · rfl
@[simp] theorem beyondLoops_shutByMode (l : Nat) : (s.shutByMode l).beyondLoops = s.beyondLoops := by
  unfold State.shutByMode
  split
  · rfl
  · split <;> simp
@[simp] theorem beyondLoops_recomputeLoop (l : Nat) : (s.recomputeLoop l).beyondLoops = s.beyondLoops :=
  foldl_view State.beyondLoops _ (fun _ _ => by simp) _ _
@[simp] theorem beyondLoops_voidPlanned (i l : Nat) : (s.voidPlanned i l).1.beyondLoops = s.beyondLoops := by
  unfold State.voidPlanned
  dsimp only
  split
  · rfl
  · simp only [beyondLoops_callsChangedAt, beyondLoops_dissolveAt]
    exact foldl_view State.beyondLoops _ (fun _ _ => by simp) _ _

end Sys2Proof.Machine
end

