-- ==== Sys2Proof/Laws/TrainFrames.lean ====
section
/-! SUPPORT. What the Train Controller's and the Zone Controller's operations leave alone. -/

namespace Sys2Proof.Machine

variable {s : State}

/-! ## Reports, and what lower frames give -/

@[simp] theorem beyondTrains_report (k : ReportKind) (b : Body) : (s.report k b).beyondTrains = s.beyondTrains :=
  beyondTrains_congr (by simp)
@[simp] theorem beyondTrains_modTrain (i : Nat) (f : Train → Train) : (s.modTrain i f).beyondTrains = s.beyondTrains := rfl
@[simp] theorem beyondTrains_modCall (i : Nat) (f : Call → Call) : (s.modCall i f).beyondTrains = s.beyondTrains := rfl
@[simp] theorem beyondTrains_modSlot (i : Nat) (f : Slot → Slot) : (s.modSlot i f).beyondTrains = s.beyondTrains := rfl
@[simp] theorem beyondTrains_modLoop (i : Nat) (f : LoopRec → LoopRec) : (s.modLoop i f).beyondTrains = s.beyondTrains := rfl
@[simp] theorem beyondTrains_removeCall (i : Nat) : (s.removeCall i).beyondTrains = s.beyondTrains := rfl
@[simp] theorem beyondTrains_modLoad (i : Nat) (f : Load → Load) : (s.modLoad i f).beyondTrains = s.beyondTrains := rfl
@[simp] theorem beyondTrains_modDrop (t i : Nat) (f : Drop → Drop) : (s.modDrop t i f).beyondTrains = s.beyondTrains := rfl
@[simp] theorem beyondTrains_settleLoops (ts : List (Nat × LoopTask)) : (s.settleLoops ts).beyondTrains = s.beyondTrains :=
  beyondTrains_congr (by simp)
@[simp] theorem beyondTrains_callsChanged (i : Nat) : (s.callsChanged i).beyondTrains = s.beyondTrains := beyondTrains_congr (by simp)
@[simp] theorem beyondTrains_callsChangedAt (l : List Nat) : (s.callsChangedAt l).beyondTrains = s.beyondTrains :=
  beyondTrains_congr (by simp)
@[simp] theorem beyondTrains_slotEvent (i : Nat) (e r : Cause) (f : Slot → Slot) :
    (s.slotEvent i e r f).beyondTrains = s.beyondTrains := beyondTrains_congr (beyondLoops_congr (by simp))
@[simp] theorem beyondTrains_finishCall (i : Nat) (o : CallOutcome) : (s.finishCall i o).beyondTrains = s.beyondTrains :=
  beyondTrains_congr (by simp)
@[simp] theorem beyondTrains_reportRaised (a : RaiseAction) (i b : Nat) (m : Option Nat) :
    (s.reportRaised a i b m).beyondTrains = s.beyondTrains := beyondTrains_congr (beyondLoops_congr (by simp))
@[simp] theorem beyondTrains_reportCouple (t : Nat) (st : TrainState) (e : Nat) (ld : Load) (o : Option Nat) :
    (s.reportCouple t st e ld o).beyondTrains = s.beyondTrains := by simp [State.reportCouple]
@[simp] theorem beyondTrains_reportDepart (t : Nat) (st : TrainState) (e : Nat) (a b : Option Nat) (l : Option Location) :
    (s.reportDepart t st e a b l).beyondTrains = s.beyondTrains := by simp [State.reportDepart]
@[simp] theorem beyondTrains_reportStop (t : Nat) (st : TrainState) (e : Nat) (a : Option Nat) (k : Nat) (b c d x y : Option Nat) :
    (s.reportStop t st e a k b c d x y).beyondTrains = s.beyondTrains := by simp [State.reportStop]
@[simp] theorem beyondTrains_reportDrop (t : Nat) (st : TrainState) (e ld : Nat) (d : Drop) (o : Option Nat) :
    (s.reportDrop t st e ld d o).beyondTrains = s.beyondTrains := by simp [State.reportDrop]
@[simp] theorem beyondTrains_reportRunEnd (t : Nat) (st : Option TrainState) (e : Nat) (a b c d x : Option Nat) (l : Option Location) :
    (s.reportRunEnd t st e a b c d x l).beyondTrains = s.beyondTrains := by simp [State.reportRunEnd]
@[simp] theorem beyondTrains_reportCharge (t : Nat) (st : TrainState) (e : Nat) (a b : Option Nat) :
    (s.reportCharge t st e a b).beyondTrains = s.beyondTrains := by simp [State.reportCharge]
@[simp] theorem beyondTrains_reportHot (e : Nat) (h : Hot) (a b c d : Option Nat) :
    (s.reportHot e h a b c d).beyondTrains = s.beyondTrains := by simp [State.reportHot]
@[simp] theorem beyondTrains_reportNote (t e n c : Nat) (sl : Option Nat) (a : Train) :
    (s.reportNote t e n c sl a).beyondTrains = s.beyondTrains := by simp [State.reportNote]
@[simp] theorem beyondTrains_hotDelivered (i c : Nat) : (s.hotDelivered i c).beyondTrains = s.beyondTrains :=
  beyondTrains_congr (beyondLoops_congr (by simp))
@[simp] theorem beyondTrains_hotAbandoned (i c : Nat) : (s.hotAbandoned i c).beyondTrains = s.beyondTrains :=
  beyondTrains_congr (beyondLoops_congr (by simp))
@[simp] theorem beyondTrains_hotAccepted (i c : Nat) : (s.hotAccepted i c).beyondTrains = s.beyondTrains :=
  beyondTrains_congr (beyondLoops_congr (by simp))

/-! ## Queues and chargers -/

@[simp] theorem beyondTrains_homeQ (q : List Nat) : ({ s with homeQ := q } : State).beyondTrains = s.beyondTrains := rfl
@[simp] theorem beyondTrains_chargeQ (q : List Nat) : ({ s with chargeQ := q } : State).beyondTrains = s.beyondTrains := rfl
@[simp] theorem beyondTrains_departQ (q : List Nat) : ({ s with departQ := q } : State).beyondTrains = s.beyondTrains := rfl

@[simp] theorem beyondTrains_joinHome (t : Nat) : (s.joinHome t).beyondTrains = s.beyondTrains := rfl
@[simp] theorem beyondTrains_coupleFor (t : Nat) : (s.coupleFor t).beyondTrains = s.beyondTrains := by
  unfold State.coupleFor; split <;> simp
@[simp] theorem beyondTrains_park (t : Nat) : (s.park t).beyondTrains = s.beyondTrains := by simp [State.park]
@[simp] theorem beyondTrains_toChargers (t : Nat) : (s.toChargers t).beyondTrains = s.beyondTrains := by
  unfold State.toChargers; split
  · rfl
  · dsimp only; split
    · simp
    · rw [beyondTrains_chargeQ]; simp
theorem beyondTrains_freeChargersN (n : Nat) (s : State) : (freeChargersN n s).beyondTrains = s.beyondTrains := by
  induction n generalizing s with
  | zero => rfl
  | succ n ih =>
    unfold freeChargersN; split
    · rfl
    · split
      · dsimp only; rw [ih, beyondTrains_reportCharge]; rfl
      · rfl
@[simp] theorem beyondTrains_freeChargers : s.freeChargers.beyondTrains = s.beyondTrains := beyondTrains_freeChargersN _ _
@[simp] theorem beyondTrains_endCharging (t : Nat) : (s.endCharging t).beyondTrains = s.beyondTrains := by
  simp [State.endCharging]
@[simp] theorem beyondTrains_settleHome (t : Nat) : (s.settleHome t).beyondTrains = s.beyondTrains := by
  unfold State.settleHome; split
  · rfl
  · split <;> simp
theorem beyondTrains_goTestN (n : Nat) (s : State) : (goTestN n s).beyondTrains = s.beyondTrains := by
  induction n generalizing s with
  | zero => rfl
  | succ n ih =>
    unfold goTestN; split
    · rfl
    · split
      · dsimp only; rw [ih, beyondTrains_reportDepart]; rfl
      · rfl
@[simp] theorem beyondTrains_goTest : s.goTest.beyondTrains = s.beyondTrains := beyondTrains_goTestN _ _
@[simp] theorem beyondTrains_queueDeparture (t : Nat) : (s.queueDeparture t).beyondTrains = s.beyondTrains := by
  unfold State.queueDeparture; rw [beyondTrains_reportDepart]; rfl
@[simp] theorem beyondTrains_goTestAfter (q : List Nat) : (s.goTestAfter q).beyondTrains = s.beyondTrains := by
  unfold State.goTestAfter; split <;> simp
@[simp] theorem beyondTrains_joinDeparture (t : Nat) : (s.joinDeparture t).beyondTrains = s.beyondTrains := by
  simp [State.joinDeparture]
@[simp] theorem beyondTrains_leaveDeparture (t : Nat) : (s.leaveDeparture t).beyondTrains = s.beyondTrains := by
  unfold State.leaveDeparture; split
  · dsimp only; split
    · rw [beyondTrains_goTest]; rfl
    · rfl
  · rfl

/-! ## Containers back to their calls -/

@[simp] theorem beyondTrains_returnCall (i c : Nat) : (s.returnCall i c).beyondTrains = s.beyondTrains := by
  unfold State.returnCall; split
  · rfl
  · dsimp only; split <;> simp
@[simp] theorem beyondTrains_openForExpedite (l : List Nat) : (s.openForExpedite l).beyondTrains = s.beyondTrains := by
  unfold State.openForExpedite; split <;> simp
@[simp] theorem beyondTrains_returnDrops (ds : List Drop) : (s.returnDrops ds).beyondTrains = s.beyondTrains := by
  unfold State.returnDrops; dsimp only
  rw [beyondTrains_openForExpedite]
  exact foldl_view State.beyondTrains _ (fun _ _ => by simp) _ _

/-! ## The run -/

@[simp] theorem beyondTrains_endStop (t k : Nat) (st : TrainState) (e : Nat) (c : Option Nat) :
    (s.endStop t k st e c).beyondTrains = s.beyondTrains := by
  unfold State.endStop; split
  · rfl
  · dsimp only; simp
@[simp] theorem beyondTrains_reportReturning (t : Nat) (tr : Train) (c : Nat) :
    (s.reportReturning t tr c).beyondTrains = s.beyondTrains := by simp [State.reportReturning]
@[simp] theorem beyondTrains_lastStopCheck (t : Nat) : (s.lastStopCheck t).beyondTrains = s.beyondTrains := by
  unfold State.lastStopCheck; split
  · rfl
  · split
    · dsimp only; split
      · split <;> split <;> simp
      · rfl
    · rfl
@[simp] theorem beyondTrains_arriveStop (t k : Nat) : (s.arriveStop t k).beyondTrains = s.beyondTrains := by
  unfold State.arriveStop; dsimp only; split <;> simp
@[simp] theorem beyondTrains_deliverCall (i : Nat) : (s.deliverCall i).beyondTrains = s.beyondTrains := by
  unfold State.deliverCall; dsimp only; split
  · split <;> simp
  · simp
@[simp] theorem beyondTrains_dropDone (t : Nat) (tr : Train) (ld : Load) (d : Drop) :
    (s.dropDone t tr ld d).beyondTrains = s.beyondTrains := by
  simp [State.dropDone]
@[simp] theorem beyondTrains_doneFlag (t i : Nat) : (s.doneFlag t i).beyondTrains = s.beyondTrains := by
  unfold State.doneFlag
  split
  · rfl
  · split
    · rfl
    · split
      · rfl
      · split
        · rfl
        · rfl
        · split <;> simp
        · dsimp only; split
          · rfl
          · split
            · simp
            · split <;> simp
@[simp] theorem beyondTrains_doneSet (t l : Nat) (d : List Nat) : (s.doneSet t l d).beyondTrains = s.beyondTrains := by
  unfold State.doneSet; split
  · rfl
  · split
    · exact foldl_view State.beyondTrains _ (fun _ _ => by simp) _ _
    · rfl
@[simp] theorem beyondTrains_takeHot (t : Nat) (h : Hot) : (s.takeHot t h).beyondTrains = s.beyondTrains := by
  unfold State.takeHot; simp
@[simp] theorem beyondTrains_hotTaken (t i : Nat) : (s.hotTaken t i).beyondTrains = s.beyondTrains := by
  unfold State.hotTaken; split
  · split <;> simp
  · rfl
@[simp] theorem beyondTrains_hotDone (t i : Nat) : (s.hotDone t i).beyondTrains = s.beyondTrains := by
  unfold State.hotDone; dsimp only; split
  · simp
  · split <;> simp
@[simp] theorem beyondTrains_clearHot (t c : Nat) (l : List Hot) : (s.clearHot t c l).beyondTrains = s.beyondTrains :=
  (foldl_view State.beyondTrains _ (fun _ _ => by simp) _ _).trans (by simp)
@[simp] theorem beyondTrains_releaseHot (l : List Hot) : (s.releaseHot l).beyondTrains = s.beyondTrains :=
  foldl_view State.beyondTrains _ (fun _ _ => by simp) _ _
@[simp] theorem beyondTrains_abandonHot (t c : Nat) : (s.abandonHot t c).beyondTrains = s.beyondTrains := by
  unfold State.abandonHot; split <;> simp
@[simp] theorem beyondTrains_endHere (t : Nat) (tr : Train) (st : TrainState) :
    (s.endHere t tr st).beyondTrains = s.beyondTrains :=
  foldl_view State.beyondTrains _ (fun _ _ => by simp) _ _
@[simp] theorem beyondTrains_endPassed (t : Nat) (tr : Train) (u : Nat) (st : TrainState) :
    (s.endPassed t tr u st).beyondTrains = s.beyondTrains :=
  foldl_view State.beyondTrains _ (fun _ _ => by simp) _ _
@[simp] theorem beyondTrains_endStopsBefore (t : Nat) (tr : Train) (u : Nat) (st : TrainState) :
    (s.endStopsBefore t tr u st).beyondTrains = s.beyondTrains := by
  simp [State.endStopsBefore]
@[simp] theorem beyondTrains_endAllStops (t : Nat) (tr : Train) (n : Nat) (st : TrainState) :
    (s.endAllStops t tr n st).beyondTrains = s.beyondTrains := by
  simp [State.endAllStops]
@[simp] theorem beyondTrains_arriveHome (t : Nat) : (s.arriveHome t).beyondTrains = s.beyondTrains := by
  unfold State.arriveHome; split
  · rfl
  · dsimp only
    split
    · split <;> simp
    · simp only [beyondTrains_settleHome, beyondTrains_reportRunEnd, beyondTrains_modTrain, beyondTrains_abandonHot,
        beyondTrains_returnDrops]
      split <;> simp
@[simp] theorem beyondTrains_moveOn (t : Nat) (tr : Train) (l : Location) : (s.moveOn t tr l).beyondTrains = s.beyondTrains := by
  unfold State.moveOn; dsimp only; split
  · simp
  · split
    · split <;> split <;> simp
    · split <;> simp
  · simp
  · rfl
@[simp] theorem beyondTrains_place (t : Nat) (tr : Train) : (s.place t tr).beyondTrains = s.beyondTrains := by
  unfold State.place; dsimp only; split <;> simp
@[simp] theorem beyondTrains_stray (t : Nat) (l : Location) : (s.stray t l).beyondTrains = s.beyondTrains := by
  unfold State.stray; dsimp only
  rw [beyondTrains_freeChargers, beyondTrains_reportRunEnd]; rfl
@[simp] theorem beyondTrains_unreleased (t : Nat) (tr : Train) (l : Location) :
    (s.unreleased t tr l).beyondTrains = s.beyondTrains := by
  unfold State.unreleased; dsimp only; split <;> simp
@[simp] theorem beyondTrains_actOnLocation (t : Nat) (tr : Train) (l : Location) :
    (s.actOnLocation t tr l).beyondTrains = s.beyondTrains := by
  unfold State.actOnLocation
  repeat' split
  all_goals simp
@[simp] theorem beyondTrains_takeLocation (t : Nat) (l : Location) : (s.takeLocation t l).beyondTrains = s.beyondTrains := by
  unfold State.takeLocation; dsimp only; split
  · simp
  · split <;> simp
@[simp] theorem beyondTrains_coupledFlag (t l : Nat) (c : Bool) : (s.coupledFlag t l c).beyondTrains = s.beyondTrains := by
  unfold State.coupledFlag; repeat' split
  all_goals simp
@[simp] theorem beyondTrains_lateIfDue (t : Nat) : (s.lateIfDue t).beyondTrains = s.beyondTrains := by
  unfold State.lateIfDue; repeat' split
  all_goals simp
@[simp] theorem beyondTrains_takeBattery (t l : Nat) : (s.takeBattery t l).beyondTrains = s.beyondTrains := by
  unfold State.takeBattery; split
  · rfl
  · dsimp only; split
    · simp
    · split
      · simp
      · split <;> simp
@[simp] theorem beyondTrains_takeNote (t n c l : Nat) (b : Bool) (a : Train) : (s.takeNote t n c l b a).beyondTrains = s.beyondTrains := by
  unfold State.takeNote; split
  · rfl
  · split
    · dsimp only; split <;> simp
    · rfl

/-! ## Zones -/

@[simp] theorem beyondZones_report (k : ReportKind) (b : Body) : (s.report k b).beyondZones = s.beyondZones :=
  beyondZones_congr (by simp)
@[simp] theorem beyondZones_modZone (i : Nat) (f : Zone → Zone) : (s.modZone i f).beyondZones = s.beyondZones := rfl
@[simp] theorem beyondZones_modTrain (i : Nat) (f : Train → Train) : (s.modTrain i f).beyondZones = s.beyondZones := rfl
@[simp] theorem beyondZones_evaluate (z : Nat) : (s.evaluate z).beyondZones = s.beyondZones := rfl
@[simp] theorem beyondZones_reportZone (e z t : Nat) (a b : Option Nat) (o : List Occupant) (c d f : Option Nat) (h : Option Bool) :
    (s.reportZone e z t a b o c d f h).beyondZones = s.beyondZones := by simp [State.reportZone]
@[simp] theorem beyondZones_setWish (t : Nat) (w : Wish) : (s.setWish t w).beyondZones = s.beyondZones := rfl
@[simp] theorem beyondZones_clearWishOf (t z : Nat) : (s.clearWishOf t z).beyondZones = s.beyondZones := rfl
@[simp] theorem beyondZones_leaveOtherQueues (t : Nat) (w : Option Nat) :
    (s.leaveOtherQueues t w).beyondZones = s.beyondZones := rfl
@[simp] theorem beyondZones_judgeWish (t : Nat) (tr : Train) (w : Option Nat) :
    (s.judgeWish t tr w).beyondZones = s.beyondZones := by
  unfold State.judgeWish; dsimp only
  repeat' split
  all_goals simp
@[simp] theorem beyondZones_gateWanted (t : Nat) (w : Option Nat) : (s.gateWanted t w).beyondZones = s.beyondZones := by
  unfold State.gateWanted; repeat' split
  all_goals simp
@[simp] theorem beyondZones_heldAt (t z : Nat) (b : Bool) : (s.heldAt t z b).beyondZones = s.beyondZones := by
  unfold State.heldAt; repeat' split
  all_goals simp
@[simp] theorem beyondZones_zonesHeld (t : Nat) (h : List Nat) : (s.zonesHeld t h).beyondZones = s.beyondZones :=
  foldl_view State.beyondZones _ (fun _ _ => by simp) _ _
@[simp] theorem beyondZones_lapse (z t : Nat) (o : Occupant) : (s.lapse z t o).beyondZones = s.beyondZones := by
  simp [State.lapse]
@[simp] theorem beyondZones_lapseIfDue (z t : Nat) : (s.lapseIfDue z t).beyondZones = s.beyondZones := by
  unfold State.lapseIfDue; split <;> simp
@[simp] theorem beyondZones_stallIfDue (z t : Nat) : (s.stallIfDue z t).beyondZones = s.beyondZones := by
  unfold State.stallIfDue; split
  · rfl
  · split <;> simp
@[simp] theorem beyondZones_leaveZones (t : Nat) : (s.leaveZones t).beyondZones = s.beyondZones := rfl

/-! ## What loads and calls that agree give -/

theorem callIn_of_callHolds {id n : Nat} {st : CallState} (h : s.callHolds id st n) : s.callIn id st :=
  let ⟨c, hc, hs, _⟩ := h
  ⟨c, hc, hs⟩
/-- Where loads and calls agree, what is aboard a train names LOADED calls. -/
theorem loaded_of_aboardKept (h : s.aboardKept) {i : Nat} {x : Train} (hx : tget s.trains i = some x) :
    ∀ d ∈ x.aboard, s.callIn d.call .loaded :=
  fun d hd => callIn_of_callHolds (h.1 _ (tget_mem hx) d hd)
/-- So does every drop of a train that is COUPLING or READY. -/
theorem loaded_of_coupled (h : s.aboardKept) {i : Nat} {x : Train} (hx : tget s.trains i = some x)
    (hst : x.state = .coupling ∨ x.state = .ready) : ∀ d ∈ x.drops, s.callIn d.call .loaded :=
  fun d hd => loaded_of_aboardKept h hx d (by simp [Train.aboard, hd, h.2.2 _ (tget_mem hx) hst d hd])

end Sys2Proof.Machine
end

