-- ==== Sys2Proof/Laws/CommandFrames.lean ====
section
/-! SUPPORT. What the effects of the requests leave alone, request by request: the line mode, what was sent, the queues of
commands and requests. -/

namespace Sys2Proof.Machine

variable {s : State}

/-- The line mode, what was sent, the commands waiting and the requests held. -/
structure Outer where
  mode : LineMode
  sent : List Telegram
  pending : List Instr
  requests : List Request

def State.outer (s : State) : Outer := ⟨s.mode, s.sent, s.pending, s.requestQueue⟩

theorem outer_of_beyond {s t : State} (h : t.beyondZones = s.beyondZones) : t.outer = s.outer := by
  have := congrArg State.outer h
  exact this

theorem outer_of_trains {s t : State} (h : t.beyondTrains = s.beyondTrains) : t.outer = s.outer :=
  outer_of_beyond (beyondZones_congr h)

theorem outer_of_loops {s t : State} (h : t.beyondLoops = s.beyondLoops) : t.outer = s.outer :=
  outer_of_trains (beyondTrains_congr h)

theorem outer_of_slots {s t : State} (h : t.beyondSlots = s.beyondSlots) : t.outer = s.outer :=
  outer_of_loops (beyondLoops_congr h)

theorem outer_recomputeAll (c : Cause) : (s.recomputeAll c).outer = s.outer := outer_of_slots (by simp)
theorem outer_settleLoops (ts : List (Nat × LoopTask)) : (s.settleLoops ts).outer = s.outer := outer_of_loops (by simp)
theorem outer_reportRunEnd (t : Nat) (st : Option TrainState) (e : Nat) (a b c d x : Option Nat) (l : Option Location) :
    (s.reportRunEnd t st e a b c d x l).outer = s.outer := outer_of_trains (by simp)
theorem outer_abandonHot (t c : Nat) : (s.abandonHot t c).outer = s.outer := outer_of_trains (by simp)

/-! ## The Sequence Tracker -/

theorem lineSetAct_outer (a : LineSetArgs) : (lineSetAct s a).1.outer = s.outer := by
  unfold lineSetAct; dsimp only; split
  · rfl
  · exact (outer_recomputeAll _).trans rfl
theorem announceSets_frame (bs : List Build) : (s.announceSets bs).beyondSlots = s.beyondSlots := by
  unfold State.announceSets
  refine foldl_view State.beyondSlots _ (fun s a => ?_) _ _
  dsimp only
  split
  · split
    · split <;> simp
    · rfl
  · rfl
theorem announceAct_outer (bs : List Build) : (announceAct s bs).1.outer = s.outer :=
  (outer_of_slots (announceSets_frame bs)).trans ((outer_recomputeAll _).trans rfl)
theorem breakSets_frame (b : Build) (ids : List Nat) : (s.breakSets b ids).beyondSlots = s.beyondSlots := by
  unfold State.breakSets
  refine foldl_view State.beyondSlots _ (fun s a => ?_) _ _
  dsimp only
  repeat' split
  all_goals simp
theorem withdrawAct_outer (n : Nat) : (withdrawAct s n).1.outer = s.outer := by
  unfold withdrawAct; dsimp only
  split
  · exact (outer_of_slots (breakSets_frame _ _)).trans ((outer_recomputeAll _).trans rfl)
  · exact (outer_recomputeAll _).trans rfl
theorem consumeAll_frame : s.consumeAll.beyondSlots = s.beyondSlots := by
  refine foldl_view State.beyondSlots _ (fun s a => ?_) _ _
  unfold State.consumeAt
  split
  · rfl
  · exact foldl_view State.beyondSlots _ (fun _ _ => by simp) _ _
theorem shiftLine_outer (g : Bool) : (s.shiftLine g).outer = s.outer := by
  unfold State.shiftLine; split <;> rfl
theorem advanceAct_outer (g : Option Nat) : (advanceAct s g).1.outer = s.outer :=
  (outer_of_slots ((beyondSlots_recomputeAll _).trans consumeAll_frame)).trans (shiftLine_outer _)
theorem recallHolding_frame : s.recallHolding.beyondTrains = s.beyondTrains := by
  refine foldl_view State.beyondTrains _ (fun s a => ?_) _ _
  repeat' split
  all_goals simp
theorem shutWindows_frame : s.shutWindows.beyondLoops = s.beyondLoops :=
  foldl_view State.beyondLoops _ (fun _ _ => by simp) _ _
theorem changeMode_frame (m : LineMode) : (s.changeMode m).beyondTrains = ({ s with mode := m } : State).beyondTrains := by
  unfold State.changeMode
  cases m
  · dsimp only; rw [beyondTrains_goTest, beyondTrains_settleLoops]; exact beyondTrains_congr (by simp)
  · dsimp only; rw [beyondTrains_goTest, beyondTrains_settleLoops]
  · exact recallHolding_frame.trans (beyondTrains_congr shutWindows_frame)

/-! ## The Slot Table and the Call List -/

theorem joinRack_outer (p : Option RackPlace) : (s.joinRack p).outer = s.outer := by
  unfold State.joinRack; split <;> rfl
theorem slotDefAct_outer (a : SlotDefArgs) : (slotDefAct s a).1.outer = s.outer :=
  (outer_of_slots (beyondSlots_coverChain _ _ _ _ _ _)).trans (joinRack_outer _)
theorem slotUndefineAct_outer (i : Nat) : (slotUndefineAct s i).1.outer = s.outer :=
  outer_of_slots ((show State.beyondSlots { State.reportFlags _ _ _ _ _ with slots := _ } = _ from rfl).trans
    (beyondSlots_reportFlags (s := s.modSlot i _) i _ _ _))
theorem changeSlotState_frame (i : Nat) (sl : Slot) (st : SlotState) :
    (s.changeSlotState i sl st).beyondLoops = s.beyondLoops := by
  unfold State.changeSlotState
  cases st <;> dsimp only <;> simp <;> rfl
theorem slotStateAct_outer (a : SlotStateArgs) : (slotStateAct s a).1.outer = s.outer := by
  unfold slotStateAct; split
  · rfl
  · dsimp only; split
    · rfl
    · exact outer_of_loops (changeSlotState_frame _ _ _)
theorem slotCountAct_outer (a : SlotCountArgs) : (slotCountAct s a).1.outer = s.outer := outer_of_slots (beyondSlots_tally _ _)
theorem expediteAct_outer (a : ExpediteArgs) : (expediteAct s a).1.outer = s.outer := by
  unfold expediteAct; split
  · rfl
  · dsimp only; split
    · refine outer_of_trains ?_
      rw [beyondTrains_openForExpedite, beyondTrains_callsChanged]
      exact beyondTrains_congr (beyondLoops_congr (by simp))
    · exact outer_of_slots (by simp)
theorem cancelAct_outer (i : Nat) : (cancelAct s i).1.outer = s.outer := by
  unfold cancelAct; split
  · rfl
  · dsimp only; split
    · exact outer_of_slots (by simp)
    · exact outer_of_loops (by simp)
theorem classMaskAct_outer (a : MaskArgs) : (classMaskAct s a).1.outer = s.outer := by
  unfold classMaskAct; dsimp only; split
  · exact outer_of_loops (s := { s with mask := maskOf a }) (by simp)
  · rfl
theorem seqFlushAct_outer (i : Nat) : (seqFlushAct s i).1.outer = s.outer := by
  unfold seqFlushAct; split
  · rfl
  · exact outer_of_slots (by simp)

/-! ## The Loop Controller -/

theorem loopDefAct_outer (a : LoopDefArgs) : (loopDefAct s a).1.outer = s.outer := by
  unfold loopDefAct; dsimp only
  refine outer_of_loops ?_
  rw [beyondLoops_settleLoops]
  split
  · rfl
  · rw [beyondLoops_recomputeLoop]; rfl
theorem loopUndefineAct_outer (l : Nat) : (loopUndefineAct s l).1.outer = s.outer := rfl
theorem cycleAct_outer (a : CycleArgs) : (cycleAct s a).1.outer = s.outer := by
  unfold cycleAct; split
  · rfl
  · split
    · exact outer_of_loops (by simp)
    · rfl
theorem cycleStopAct_outer (l : Nat) : (cycleStopAct s l).1.outer = s.outer := rfl
theorem windowOpenAct_outer (l : Nat) : (windowOpenAct s l).1.outer = s.outer := outer_of_loops (by simp [windowOpenAct])
theorem windowCloseAct_outer (l : Nat) : (windowCloseAct s l).1.outer = s.outer := by
  unfold windowCloseAct; split <;> exact outer_of_loops (by simp)

/-! ## The Train Controller -/

theorem trainDefAct_outer (a : TrainDefArgs) : (trainDefAct s a).1.outer = s.outer := by
  unfold trainDefAct; dsimp only; split <;> exact (outer_reportRunEnd ..).trans rfl
theorem foldl_endCharging_frame (l : List Nat) (s : State) : (l.foldl State.endCharging s).beyondTrains = s.beyondTrains :=
  foldl_view State.beyondTrains _ (fun _ _ => by simp) _ _
theorem foldl_lateIfDue_frame (l : List Nat) (s : State) : (l.foldl State.lateIfDue s).beyondTrains = s.beyondTrains :=
  foldl_view State.beyondTrains _ (fun _ _ => by simp) _ _
theorem fleetAct_frame (f : Fleet) : (fleetAct s f).1.beyondTrains = ({ s with fleet := f } : State).beyondTrains := by
  unfold fleetAct; dsimp only
  rw [foldl_lateIfDue_frame, foldl_endCharging_frame, beyondTrains_goTest, beyondTrains_freeChargers]
theorem fleetAct_outer (f : Fleet) : (fleetAct s f).1.outer = s.outer :=
  outer_of_trains (s := { s with fleet := f }) (fleetAct_frame f)
theorem trainAssignAct_outer (a : AssignArgs) : (trainAssignAct s a).1.outer = s.outer := by
  unfold trainAssignAct; dsimp only; split
  · exact outer_of_loops (by simp)
  · rfl
theorem releaseAct_outer (t : Nat) : (releaseAct s t).1.outer = s.outer := outer_of_trains (beyondTrains_joinDeparture t)
theorem reportCutStop_frame (t : Nat) (a b : Train) : (s.reportCutStop t a b).beyondTrains = s.beyondTrains := by
  unfold State.reportCutStop; split <;> simp
theorem cutAct_outer (t : Nat) : (cutAct s t).1.outer = s.outer := by
  unfold cutAct; split
  · rfl
  · refine outer_of_trains ?_
    rw [beyondTrains_callsChangedAt, beyondTrains_reportReturning, reportCutStop_frame, beyondTrains_modTrain]
theorem returnAct_outer (t : Nat) : (returnAct s t).1.outer = s.outer := by
  unfold returnAct; split
  · rfl
  · exact outer_of_trains (by simp)
theorem takeBack_frame (ld : Load) : (s.takeBack ld).beyondTrains = s.beyondTrains := by
  unfold State.takeBack; dsimp only
  rw [beyondTrains_callsChangedAt]
  refine (foldl_view State.beyondTrains _ (fun _ _ => ?_) _ _).trans ?_
  · simp
  · exact beyondTrains_congr (by simp)
theorem abandonLoad_frame (t : Nat) (ld : Load) : (s.abandonLoad t ld).1.beyondTrains = s.beyondTrains := by
  unfold State.abandonLoad; dsimp only
  rw [beyondTrains_settleLoops]
  have h : ∀ o, (State.reportCouple { s.modTrain t fun x => { x with state := .parked, load := none, coupledAt := none } with
      homeQ := s.homeQ ++ [t] } t .parked 3 ld o).beyondTrains = s.beyondTrains := fun o => by
    rw [beyondTrains_reportCouple]; rfl
  split
  · split
    · rw [takeBack_frame]; exact h _
    · rw [beyondTrains_returnDrops]; exact h _
  · split
    · rw [takeBack_frame]; exact h _
    · rw [beyondTrains_returnDrops]; exact h _
theorem abandonAct_outer (t : Nat) : (abandonAct s t).1.outer = s.outer := by
  unfold abandonAct; split
  · rfl
  · exact outer_of_trains ((abandonLoad_frame _ _).trans (beyondTrains_leaveDeparture t))
theorem chargeAct_outer (t : Nat) : (chargeAct s t).1.outer = s.outer := outer_of_trains (beyondTrains_toChargers t)
theorem serviceOffAct_outer (t : Nat) : (serviceOffAct s t).1.outer = s.outer := by
  refine outer_of_trains ?_
  unfold serviceOffAct; dsimp only
  rw [beyondTrains_modTrain, beyondTrains_abandonHot]; rfl
theorem backInService_frame (t : Nat) : (s.backInService t).beyondTrains = s.beyondTrains := by
  unfold State.backInService; split
  · rfl
  · split <;> simp
theorem serviceOnAct_outer (t : Nat) : (serviceOnAct s t).1.outer = s.outer := outer_of_trains (backInService_frame t)
theorem dismissAct_outer (t : Nat) : (dismissAct s t).1.outer = s.outer := by
  unfold dismissAct; split
  · rfl
  · refine (outer_reportRunEnd ..).trans (?_ : (State.dismissSteps _ _ _).outer = _)
    refine (outer_abandonHot _ _).trans ((outer_of_beyond (beyondZones_leaveZones _)).trans ?_)
    exact outer_of_trains (by simp)
theorem hotcallAct_outer (a : HotArgs) : (hotcallAct s a).1.outer = s.outer := by
  unfold hotcallAct; split
  · rfl
  · exact (outer_of_trains (beyondTrains_hotAccepted _ _)).trans rfl
theorem noteReadAct_outer (t : Nat) : (noteReadAct s t).1.outer = s.outer := by
  unfold noteReadAct; repeat' split
  all_goals rfl

/-! ## The Zone Controller -/

theorem zoneDefAct_outer (a : ZoneDefArgs) : (zoneDefAct s a).1.outer = s.outer := by
  unfold zoneDefAct; split <;> rfl
theorem zoneLimitsAct_outer (a : ZoneLimitsArgs) : (zoneLimitsAct s a).1.outer = s.outer := by
  unfold zoneLimitsAct; dsimp only
  refine (outer_of_beyond (s := { s with gateLimit := a.gateLimit, grantLimit := a.grantLimit }) ?_).trans rfl
  refine (foldl_view State.beyondZones _ (fun s z => ?_) _ _).trans (foldl_view State.beyondZones _ (fun s z => ?_) _ _)
  · unfold State.lapsesAt; split
    · rfl
    · refine foldl_view State.beyondZones _ (fun s t => ?_) _ _
      split <;> simp
  · unfold State.stallsAt; split
    · rfl
    · exact foldl_view State.beyondZones _ (fun s t => by simp) _ _
theorem zoneClearAct_outer (a : ZoneClearArgs) : (zoneClearAct s a).1.outer = s.outer := rfl

/-! ## The rest -/

theorem linkSetAct_outer (a : LinkSetArgs) : (linkSetAct s a).1.outer = s.outer := rfl
theorem storeAct_outer (a : Unit) : (storeAct s a).1.outer = s.outer := rfl
theorem causeReadAct_outer (a : Option Nat) : (causeReadAct s a).1.outer = s.outer := by
  unfold causeReadAct; dsimp only; split <;> rfl

/-- A restart keeps what was sent and what waits as commands, and closes the line. -/
theorem restart_outer (k : RestartKind) : (s.restart k).outer = ⟨.closed, s.sent, s.pending, []⟩ := by
  refine (outer_of_slots (beyondSlots_recomputeAll _)).trans ?_
  unfold State.restarted; dsimp only
  exact outer_of_slots (beyondSlots_report _ _)

end Sys2Proof.Machine
end

