-- ==== Sys2Proof/Laws/Serve.lean ====
section
/-! SUPPORT. What taking a request in hand can do: a refusal with no effect, or the effect and one acceptance. -/

namespace Sys2Proof.Machine

variable {α : Type} {s : State} {kind tag : Byte} {o : Operand α} {check : State → α → Option Reason}
  {act : State → α → State × Body}

theorem serve_cases (kind tag : Byte) (o : Operand α) (check : State → α → Option Reason) (act : State → α → State × Body)
    (s : State) :
    (∃ r, serve kind tag o check act s = s.refusedWith kind tag r) ∨
      ∃ a, o = .ok a ∧ check s a = none ∧ serve kind tag o check act s = (act s a).1.accepted kind tag (act s a).2 := by
  unfold serve
  split
  · exact .inl ⟨_, rfl⟩
  · exact .inl ⟨_, rfl⟩
  · split
    · exact .inl ⟨_, rfl⟩
    · exact .inr ⟨_, rfl, by assumption, rfl⟩

/-- A request whose body decodes and whose check finds nothing. -/
theorem serve_ok {a : α} (h : check s a = none) :
    serve kind tag (.ok a) check act s = (act s a).1.accepted kind tag (act s a).2 := by
  simp [serve, h, State.accepted]

/-- A request whose check names a reason. -/
theorem serve_refused {a : α} {r : Reason} (h : check s a = some r) :
    serve kind tag (.ok a) check act s = s.refusedWith kind tag r := by
  simp [serve, h, State.refusedWith]

theorem accepted_outer (b : Body) :
    (s.accepted kind tag b).mode = s.mode ∧ (s.accepted kind tag b).pending = s.pending ∧
      (s.accepted kind tag b).sent = s.sent ++ [.reply ⟨kind, tag, .accept b⟩] ∧
      (s.accepted kind tag b).requestQueue = (s.leaveQueue kind tag).requestQueue := by
  refine ⟨by simp [State.accepted], by simp [State.accepted], by simp [State.accepted], ?_⟩
  unfold State.accepted State.leaveQueue
  simp only [State.reply_requestQueue]
  split
  · split <;> rfl
  · rfl

theorem refusedWith_outer (r : Reason) :
    (s.refusedWith kind tag r).mode = s.mode ∧ (s.refusedWith kind tag r).pending = s.pending ∧
      (s.refusedWith kind tag r).sent = s.sent ++ [.reply ⟨kind, tag, .refuse r⟩] := by
  simp [State.refusedWith]

/-- A refusal table names nothing when every condition holds. -/
theorem firstFail_none {l : List (Bool × Reason)} : firstFail l = none ↔ ∀ e ∈ l, e.1 = true := by
  induction l with
  | nil => simp [firstFail]
  | cons e l ih =>
    simp only [firstFail, List.forall_mem_cons]
    split <;> simp_all

end Sys2Proof.Machine
end

