-- ==== Sys2Proof/Laws/LinkFrames.lean ====
section
/-! SUPPORT. What the events of the field links leave alone. -/

namespace Sys2Proof.Machine

variable {s : State}

theorem setLink_outer (l f) : (s.setLink l f).outer = s.outer := by cases l <;> rfl
theorem modTerminal_outer (l a f) : (s.modTerminal l a f).outer = s.outer := setLink_outer _ _
theorem report_outer (k b) : (s.report k b).outer = s.outer := outer_of_slots (by simp)
theorem miss_outer (l b) : (s.miss l b).outer = s.outer := by
  unfold State.miss
  dsimp only
  split
  · rfl
  · rename_i a _
    have h0 : (if b = true then (s.endExchange l).linkError l else s.endExchange l).outer = s.outer := by
      split
      · exact (setLink_outer _ _).trans (setLink_outer _ _)
      · exact setLink_outer _ _
    generalize (if b = true then (s.endExchange l).linkError l else s.endExchange l) = u at h0 ⊢
    split
    · exact h0
    · split
      · exact h0
      · split
        · exact (modTerminal_outer _ _ _).trans h0
        · cases l
          · exact (report_outer _ _).trans ((modTerminal_outer _ _ _).trans h0)
          · exact (show State.outer (State.unsetBaselines _ _) = _ from rfl).trans ((report_outer _ _).trans ((modTerminal_outer _ _ _).trans h0))
theorem goodReply_outer (l a x) : (s.goodReply l a x).outer = s.outer := by
  unfold State.goodReply; dsimp only; split
  · exact (modTerminal_outer _ _ _).trans (setLink_outer _ _)
  · exact (report_outer _ _).trans ((modTerminal_outer _ _ _).trans (setLink_outer _ _))
theorem stray_outer (l bs) : (s.strayBytes l bs).outer = s.outer := by
  unfold State.strayBytes; split
  · exact setLink_outer _ _
  · rfl
theorem lapseCheck_bz (t) : (s.lapseCheck t).beyondZones = s.beyondZones := foldl_view State.beyondZones _ (fun _ _ => by simp) _ _
theorem replyEnd_bz (t r b) : (s.replyEnd t r b).beyondZones = s.beyondZones := by
  unfold State.replyEnd; dsimp only; split
  · exact (lapseCheck_bz _).trans (beyondZones_congr (by simp))
  · exact (beyondZones_congr (by simp))
@[simp] theorem replyDeliveries_bt (t r) : (s.replyDeliveries t r).beyondTrains = s.beyondTrains :=
  (foldl_view State.beyondTrains _ (fun _ _ => by simp) _ _).trans (by simp)
@[simp] theorem replyMoves_bt (t r) : (s.replyMoves t r).beyondTrains = s.beyondTrains := by
  unfold State.replyMoves; dsimp only; split
  · split <;> simp
  · simp
theorem replyItems_bz (t r) : (s.replyItems t r).beyondZones = s.beyondZones := by
  unfold State.replyItems
  rw [beyondZones_zonesHeld, beyondZones_gateWanted]
  exact beyondZones_congr (replyMoves_bt t r)
theorem takeTrainReport_bz (t r a b) : (s.takeTrainReport t r a b).beyondZones = s.beyondZones := by
  unfold State.takeTrainReport; dsimp only; split
  · rw [replyEnd_bz, replyItems_bz]
  · rw [replyEnd_bz]
    exact (beyondZones_congr (beyondTrains_takeNote ..)).trans (replyItems_bz _ _)
theorem trainReply_outer (bs) : (s.trainReply bs).outer = s.outer := by
  unfold State.trainReply; repeat' split
  · exact stray_outer _ _
  · exact miss_outer _ _
  · exact setLink_outer _ _
  · exact (outer_of_beyond (takeTrainReport_bz _ _ _ _)).trans (goodReply_outer _ _ _)
theorem pullN_bs (n id) (s : State) : (pullN n id s).beyondSlots = s.beyondSlots := by
  induction n generalizing s with
  | zero => rfl
  | succ n ih => unfold pullN; rw [ih]; simp
theorem takeChannel_bs (a c v) : (s.takeChannel a c v).beyondSlots = s.beyondSlots := by
  unfold State.takeChannel
  split
  · rfl
  · split
    · dsimp only; split
      · rw [beyondSlots_modSlot, pullN_bs]
      · rw [beyondSlots_modSlot, beyondSlots_tally, beyondSlots_modSlot, pullN_bs]
    · rfl
theorem rackReply_outer (bs) : (s.rackReply bs).outer = s.outer := by
  unfold State.rackReply; repeat' split
  · exact stray_outer _ _
  · exact miss_outer _ _
  · exact setLink_outer _ _
  · exact (outer_of_slots (foldl_view State.beyondSlots _ (fun _ _ => takeChannel_bs _ _ _) _ _)).trans (goodReply_outer _ _ _)


end Sys2Proof.Machine
end

