-- ==== Sys2Proof/Laws/PerInstr.lean ====
section
/-! SUPPORT. What holds of every command as syntax, one lemma per command. -/

namespace Sys2Proof.Laws

/-- A well-formed row that answers a request is the row of a request kind (R183), and UNKNOWN_KIND alone answers the other kinds. -/
def RequestRow.Statement (i : Instr) : Prop :=
  i.wellFormed = true → ∀ kind tag, i.answers = some (kind, tag) →
    (Machine.requestKinds.contains kind = true ↔ ∀ t k, i ≠ .unknownKind t k)

theorem RequestRow.powerUp : RequestRow.Statement (.powerUp) := by
  intro _ k t e
  cases e

theorem RequestRow.lineFrameReceived (bytes : List Byte) (straddles : Bool) : RequestRow.Statement (.lineFrameReceived bytes straddles) := by
  intro _ k t e
  cases e

theorem RequestRow.lineFrameGap (straddles : Bool) : RequestRow.Statement (.lineFrameGap straddles) := by
  intro _ k t e
  cases e

theorem RequestRow.unknownKind (tag kind : Byte) : RequestRow.Statement (.unknownKind tag kind) := by
  intro h k t e
  cases e
  simp only [Instr.wellFormed, Bool.not_eq_true'] at h
  simp only [h]
  exact ⟨nofun, fun n => absurd rfl (n _ _)⟩

theorem RequestRow.lineSet (tag : Byte) (a : Operand LineSetArgs) : RequestRow.Statement (.lineSet tag a) := by
  intro _ k t e
  cases e
  exact ⟨fun _ _ _ => nofun, fun _ => by decide⟩

theorem RequestRow.lineMode (tag : Byte) (m : Operand Nat) : RequestRow.Statement (.lineMode tag m) := by
  intro _ k t e
  cases e
  exact ⟨fun _ _ _ => nofun, fun _ => by decide⟩

theorem RequestRow.announce (tag : Byte) (builds : Operand (List Build)) : RequestRow.Statement (.announce tag builds) := by
  intro _ k t e
  cases e
  exact ⟨fun _ _ _ => nofun, fun _ => by decide⟩

theorem RequestRow.withdraw (tag : Byte) (serial : Operand Nat) : RequestRow.Statement (.withdraw tag serial) := by
  intro _ k t e
  cases e
  exact ⟨fun _ _ _ => nofun, fun _ => by decide⟩

theorem RequestRow.advance (tag : Byte) (gap : Operand (Option Nat)) : RequestRow.Statement (.advance tag gap) := by
  intro _ k t e
  cases e
  exact ⟨fun _ _ _ => nofun, fun _ => by decide⟩

theorem RequestRow.slotDef (tag : Byte) (a : Operand SlotDefArgs) : RequestRow.Statement (.slotDef tag a) := by
  intro _ k t e
  cases e
  exact ⟨fun _ _ _ => nofun, fun _ => by decide⟩

theorem RequestRow.slotUndefine (tag : Byte) (slot : Operand Nat) : RequestRow.Statement (.slotUndefine tag slot) := by
  intro _ k t e
  cases e
  exact ⟨fun _ _ _ => nofun, fun _ => by decide⟩

theorem RequestRow.slotState (tag : Byte) (a : Operand SlotStateArgs) : RequestRow.Statement (.slotState tag a) := by
  intro _ k t e
  cases e
  exact ⟨fun _ _ _ => nofun, fun _ => by decide⟩

theorem RequestRow.slotCount (tag : Byte) (a : Operand SlotCountArgs) : RequestRow.Statement (.slotCount tag a) := by
  intro _ k t e
  cases e
  exact ⟨fun _ _ _ => nofun, fun _ => by decide⟩

theorem RequestRow.slotQuery (tag : Byte) (slot : Operand Nat) : RequestRow.Statement (.slotQuery tag slot) := by
  intro _ k t e
  cases e
  exact ⟨fun _ _ _ => nofun, fun _ => by decide⟩

theorem RequestRow.expedite (tag : Byte) (a : Operand ExpediteArgs) : RequestRow.Statement (.expedite tag a) := by
  intro _ k t e
  cases e
  exact ⟨fun _ _ _ => nofun, fun _ => by decide⟩

theorem RequestRow.cancel (tag : Byte) (call : Operand Nat) : RequestRow.Statement (.cancel tag call) := by
  intro _ k t e
  cases e
  exact ⟨fun _ _ _ => nofun, fun _ => by decide⟩

theorem RequestRow.classMask (tag : Byte) (a : Operand MaskArgs) : RequestRow.Statement (.classMask tag a) := by
  intro _ k t e
  cases e
  exact ⟨fun _ _ _ => nofun, fun _ => by decide⟩

theorem RequestRow.seqFlush (tag : Byte) (slot : Operand Nat) : RequestRow.Statement (.seqFlush tag slot) := by
  intro _ k t e
  cases e
  exact ⟨fun _ _ _ => nofun, fun _ => by decide⟩

theorem RequestRow.callQueryCall (tag : Byte) (call : Operand Nat) : RequestRow.Statement (.callQueryCall tag call) := by
  intro _ k t e
  cases e
  exact ⟨fun _ _ _ => nofun, fun _ => by decide⟩

theorem RequestRow.callQuerySlot (tag : Byte) (slot : Operand Nat) : RequestRow.Statement (.callQuerySlot tag slot) := by
  intro _ k t e
  cases e
  exact ⟨fun _ _ _ => nofun, fun _ => by decide⟩

theorem RequestRow.loopDef (tag : Byte) (a : Operand LoopDefArgs) : RequestRow.Statement (.loopDef tag a) := by
  intro _ k t e
  cases e
  exact ⟨fun _ _ _ => nofun, fun _ => by decide⟩

theorem RequestRow.loopUndefine (tag : Byte) (loop : Operand Nat) : RequestRow.Statement (.loopUndefine tag loop) := by
  intro _ k t e
  cases e
  exact ⟨fun _ _ _ => nofun, fun _ => by decide⟩

theorem RequestRow.cycle (tag : Byte) (a : Operand CycleArgs) : RequestRow.Statement (.cycle tag a) := by
  intro _ k t e
  cases e
  exact ⟨fun _ _ _ => nofun, fun _ => by decide⟩

theorem RequestRow.cycleStop (tag : Byte) (loop : Operand Nat) : RequestRow.Statement (.cycleStop tag loop) := by
  intro _ k t e
  cases e
  exact ⟨fun _ _ _ => nofun, fun _ => by decide⟩

theorem RequestRow.windowOpen (tag : Byte) (loop : Operand Nat) : RequestRow.Statement (.windowOpen tag loop) := by
  intro _ k t e
  cases e
  exact ⟨fun _ _ _ => nofun, fun _ => by decide⟩

theorem RequestRow.windowClose (tag : Byte) (loop : Operand Nat) : RequestRow.Statement (.windowClose tag loop) := by
  intro _ k t e
  cases e
  exact ⟨fun _ _ _ => nofun, fun _ => by decide⟩

theorem RequestRow.loopQuery (tag : Byte) (loop : Operand Nat) : RequestRow.Statement (.loopQuery tag loop) := by
  intro _ k t e
  cases e
  exact ⟨fun _ _ _ => nofun, fun _ => by decide⟩

theorem RequestRow.windowExpiry (loop : Nat) : RequestRow.Statement (.windowExpiry loop) := by
  intro _ k t e
  cases e

theorem RequestRow.windowOpenTime (loop : Nat) : RequestRow.Statement (.windowOpenTime loop) := by
  intro _ k t e
  cases e

theorem RequestRow.deferredClose (loop : Nat) (dissolved : Bool) : RequestRow.Statement (.deferredClose loop dissolved) := by
  intro _ k t e
  cases e

theorem RequestRow.pickExpiry (loop : Nat) : RequestRow.Statement (.pickExpiry loop) := by
  intro _ k t e
  cases e

theorem RequestRow.couplingBegin (loop : Nat) : RequestRow.Statement (.couplingBegin loop) := by
  intro _ k t e
  cases e

theorem RequestRow.trainDef (tag : Byte) (a : Operand TrainDefArgs) : RequestRow.Statement (.trainDef tag a) := by
  intro _ k t e
  cases e
  exact ⟨fun _ _ _ => nofun, fun _ => by decide⟩

theorem RequestRow.fleetSettings (tag : Byte) (a : Operand Fleet) : RequestRow.Statement (.fleetSettings tag a) := by
  intro _ k t e
  cases e
  exact ⟨fun _ _ _ => nofun, fun _ => by decide⟩

theorem RequestRow.trainAssign (tag : Byte) (a : Operand AssignArgs) : RequestRow.Statement (.trainAssign tag a) := by
  intro _ k t e
  cases e
  exact ⟨fun _ _ _ => nofun, fun _ => by decide⟩

theorem RequestRow.release (tag : Byte) (train : Operand Nat) : RequestRow.Statement (.release tag train) := by
  intro _ k t e
  cases e
  exact ⟨fun _ _ _ => nofun, fun _ => by decide⟩

theorem RequestRow.cut (tag : Byte) (train : Operand Nat) : RequestRow.Statement (.cut tag train) := by
  intro _ k t e
  cases e
  exact ⟨fun _ _ _ => nofun, fun _ => by decide⟩

theorem RequestRow.retRun (tag : Byte) (train : Operand Nat) : RequestRow.Statement (.retRun tag train) := by
  intro _ k t e
  cases e
  exact ⟨fun _ _ _ => nofun, fun _ => by decide⟩

theorem RequestRow.abandon (tag : Byte) (train : Operand Nat) : RequestRow.Statement (.abandon tag train) := by
  intro _ k t e
  cases e
  exact ⟨fun _ _ _ => nofun, fun _ => by decide⟩

theorem RequestRow.charge (tag : Byte) (train : Operand Nat) : RequestRow.Statement (.charge tag train) := by
  intro _ k t e
  cases e
  exact ⟨fun _ _ _ => nofun, fun _ => by decide⟩

theorem RequestRow.serviceOff (tag : Byte) (train : Operand Nat) : RequestRow.Statement (.serviceOff tag train) := by
  intro _ k t e
  cases e
  exact ⟨fun _ _ _ => nofun, fun _ => by decide⟩

theorem RequestRow.serviceOn (tag : Byte) (train : Operand Nat) : RequestRow.Statement (.serviceOn tag train) := by
  intro _ k t e
  cases e
  exact ⟨fun _ _ _ => nofun, fun _ => by decide⟩

theorem RequestRow.dismiss (tag : Byte) (train : Operand Nat) : RequestRow.Statement (.dismiss tag train) := by
  intro _ k t e
  cases e
  exact ⟨fun _ _ _ => nofun, fun _ => by decide⟩

theorem RequestRow.hotcall (tag : Byte) (a : Operand HotArgs) : RequestRow.Statement (.hotcall tag a) := by
  intro _ k t e
  cases e
  exact ⟨fun _ _ _ => nofun, fun _ => by decide⟩

theorem RequestRow.noteRead (tag : Byte) (train : Operand Nat) : RequestRow.Statement (.noteRead tag train) := by
  intro _ k t e
  cases e
  exact ⟨fun _ _ _ => nofun, fun _ => by decide⟩

theorem RequestRow.trainQuery (tag : Byte) (train : Operand Nat) : RequestRow.Statement (.trainQuery tag train) := by
  intro _ k t e
  cases e
  exact ⟨fun _ _ _ => nofun, fun _ => by decide⟩

theorem RequestRow.zoneDef (tag : Byte) (a : Operand ZoneDefArgs) : RequestRow.Statement (.zoneDef tag a) := by
  intro _ k t e
  cases e
  exact ⟨fun _ _ _ => nofun, fun _ => by decide⟩

theorem RequestRow.zoneLimits (tag : Byte) (a : Operand ZoneLimitsArgs) : RequestRow.Statement (.zoneLimits tag a) := by
  intro _ k t e
  cases e
  exact ⟨fun _ _ _ => nofun, fun _ => by decide⟩

theorem RequestRow.zoneClear (tag : Byte) (a : Operand ZoneClearArgs) : RequestRow.Statement (.zoneClear tag a) := by
  intro _ k t e
  cases e
  exact ⟨fun _ _ _ => nofun, fun _ => by decide⟩

theorem RequestRow.zoneQuery (tag : Byte) (zone : Operand Nat) : RequestRow.Statement (.zoneQuery tag zone) := by
  intro _ k t e
  cases e
  exact ⟨fun _ _ _ => nofun, fun _ => by decide⟩

theorem RequestRow.zoneGrant (zone : Nat) : RequestRow.Statement (.zoneGrant zone) := by
  intro _ k t e
  cases e

theorem RequestRow.grantAgeOut (zone : Nat) : RequestRow.Statement (.grantAgeOut zone) := by
  intro _ k t e
  cases e

theorem RequestRow.grantLapse (zone train : Nat) : RequestRow.Statement (.grantLapse zone train) := by
  intro _ k t e
  cases e

theorem RequestRow.gateStall (zone train : Nat) : RequestRow.Statement (.gateStall zone train) := by
  intro _ k t e
  cases e

theorem RequestRow.coupleLimit (train : Nat) : RequestRow.Statement (.coupleLimit train) := by
  intro _ k t e
  cases e

theorem RequestRow.departureGo : RequestRow.Statement (.departureGo) := by
  intro _ k t e
  cases e

theorem RequestRow.chargerGranted : RequestRow.Statement (.chargerGranted) := by
  intro _ k t e
  cases e

theorem RequestRow.store (tag : Byte) (a : Operand Unit) : RequestRow.Statement (.store tag a) := by
  intro _ k t e
  cases e
  exact ⟨fun _ _ _ => nofun, fun _ => by decide⟩

theorem RequestRow.storeDone (outcome : ReadBack) : RequestRow.Statement (.storeDone outcome) := by
  intro _ k t e
  cases e

theorem RequestRow.restartFull (tag : Byte) (a : Operand Unit) : RequestRow.Statement (.restartFull tag a) := by
  intro _ k t e
  cases e
  exact ⟨fun _ _ _ => nofun, fun _ => by decide⟩

theorem RequestRow.restartShift (tag : Byte) (a : Operand Unit) : RequestRow.Statement (.restartShift tag a) := by
  intro _ k t e
  cases e
  exact ⟨fun _ _ _ => nofun, fun _ => by decide⟩

theorem RequestRow.causeRead (tag : Byte) (clear : Operand (Option Nat)) : RequestRow.Statement (.causeRead tag clear) := by
  intro _ k t e
  cases e
  exact ⟨fun _ _ _ => nofun, fun _ => by decide⟩

theorem RequestRow.status (tag : Byte) (a : Operand Unit) : RequestRow.Statement (.status tag a) := by
  intro _ k t e
  cases e
  exact ⟨fun _ _ _ => nofun, fun _ => by decide⟩

theorem RequestRow.linkSet (tag : Byte) (a : Operand LinkSetArgs) : RequestRow.Statement (.linkSet tag a) := by
  intro _ k t e
  cases e
  exact ⟨fun _ _ _ => nofun, fun _ => by decide⟩

theorem RequestRow.reportSend : RequestRow.Statement (.reportSend) := by
  intro _ k t e
  cases e

theorem RequestRow.pollExchange (link : Link) : RequestRow.Statement (.pollExchange link) := by
  intro _ k t e
  cases e

theorem RequestRow.replyTimeout (link : Link) : RequestRow.Statement (.replyTimeout link) := by
  intro _ k t e
  cases e

theorem RequestRow.replyGap (link : Link) : RequestRow.Statement (.replyGap link) := by
  intro _ k t e
  cases e

theorem RequestRow.fieldReplyBad (link : Link) : RequestRow.Statement (.fieldReplyBad link) := by
  intro _ k t e
  cases e

theorem RequestRow.strayFieldFrame (link : Link) (bytes : List Byte) : RequestRow.Statement (.strayFieldFrame link bytes) := by
  intro _ k t e
  cases e

theorem RequestRow.trainReply (bytes : List Byte) : RequestRow.Statement (.trainReply bytes) := by
  intro _ k t e
  cases e

theorem RequestRow.rackReply (bytes : List Byte) : RequestRow.Statement (.rackReply bytes) := by
  intro _ k t e
  cases e

theorem RequestRow.overLengthFrame (length : Nat) (straddles : Bool) : RequestRow.Statement (.overLengthFrame length straddles) := by
  intro _ k t e
  cases e

theorem RequestRow.powerLoss : RequestRow.Statement (.powerLoss) := by
  intro _ k t e
  cases e

end Sys2Proof.Laws
end

