-- ==== Sys2Proof/Tests/Slice0.lean ====
section
/-! SUPPORT. Tests of one step each, with figures from the spec's worked examples, and witnesses that the statements' hypotheses can
be met together. -/

namespace Sys2Proof.Tests

open Sys2Proof Sys2Proof.Machine

/-- The state a command leaves. -/
def after (c : Instr) (s : State) : State :=
  match exec c s with
  | .next t => t
  | .fault _ => s
  | .refused _ => s

/-- The last reply sent, as its frame says it. -/
def answer (s : State) : Option Answer :=
  match s.sent.getLast? with
  | some (.reply r) => some r.answer
  | _ => none

/-! ## Ill-formed commands are refused -/

theorem test_illFormed_operand_too_wide : (Instr.lineMode 1 (.ok 256)).wellFormed = false ∧
    (Instr.slotUndefine 1 (.ok 65536)).wellFormed = false ∧ (Instr.withdraw 1 (.ok 4294967296)).wellFormed = false := by decide
theorem test_illFormed_choice_without_a_choice : (Instr.lineMode 1 .outOfRange).wellFormed = false ∧
    (Instr.restartFull 1 .outOfRange).wellFormed = true := by decide
theorem test_illFormed_none_as_number : (Instr.trainAssign 1 (.ok ⟨0, some 255⟩)).wellFormed = false := by decide
theorem test_illFormed_unknown_kind_that_is_known : (Instr.unknownKind 1 0x01#8).wellFormed = false ∧
    (Instr.unknownKind 1 0x06#8).wellFormed = true := by decide
theorem test_illFormed_objects : (Instr.windowExpiry 12).wellFormed = false ∧ (Instr.coupleLimit 8).wellFormed = false ∧
    (Instr.zoneGrant 16).wellFormed = false ∧ (Instr.grantLapse 15 8).wellFormed = false := by decide
theorem test_illFormed_length_that_is_none : (Instr.overLengthFrame 1024 false).wellFormed = false ∧
    (Instr.overLengthFrame 1025 false).wellFormed = true := by decide

/-! ## Frames (R183) and requests (R176, R184) -/

/-- The check of the nine digits, the figure R183 gives: 29B1h. -/
theorem test_crc_of_digits : crc16 [0x31#8, 0x32#8, 0x33#8, 0x34#8, 0x35#8, 0x36#8, 0x37#8, 0x38#8, 0x39#8] = 0x29B1#16 := by decide +kernel

theorem test_frame_reads : readFrame (0x00#8 :: frameBytes 0 0x05#8 7 [0x01#8]) = .frame true 0 0x05#8 7 [0x01#8] := by decide +kernel

/-- ADVANCE with a gap flag of 1, and EXPEDITE of slot 300 (012Ch) with 2 containers. -/
theorem test_requests_decode : requestCommand ⟨0x05#8, 7, [0x01#8]⟩ = .advance 7 (.ok (some 1)) ∧
    requestCommand ⟨0x10#8, 7, [0x01#8, 0x2C#8, 0x02#8]⟩ = .expedite 7 (.ok ⟨300, 2⟩) ∧
    requestCommand ⟨0x06#8, 7, []⟩ = .unknownKind 7 0x06#8 := by decide

theorem test_no_row_has_bits : decodeTableWord 8 0 = none ∧ State.reset.withFetchWord 8 0 = State.reset := by decide

/-! ## Worked sequence of chapter 1 -/

/-- Step 1 taken: four stations, three builds announced, RUN. -/
def line4 : State := { State.reset with
  stations := 4, mode := .run, lineArray := List.replicate 4 none, announced := [⟨101, 3⟩, ⟨102, 7⟩, ⟨103, 3⟩], highest := some 103 }

theorem test_announce_counts :
    answer (after (.announce 1 (.ok [⟨101, 3⟩, ⟨102, 7⟩, ⟨103, 3⟩])) { line4 with announced := [], highest := none }) =
      some (.accept [.small (some 3), .half (some 3), .half (some 253)]) := by decide
theorem test_announce_order : answer (after (.announce 1 (.ok [⟨103, 9⟩])) line4) = some (.refuse .order) := by decide
theorem test_advance_takes_head : (after (.advance 1 (.ok none)) line4).lineArray = [some ⟨101, 3⟩, none, none, none] ∧
    answer (after (.advance 1 (.ok none)) line4) =
      some (.accept [.time none, .time (some 101), .small (some 1), .half (some 2)]) := by decide

/-- The line after step 4. -/
def line4b : State := { line4 with lineArray := [none, some ⟨101, 3⟩, none, none], announced := [⟨102, 7⟩, ⟨103, 3⟩] }

theorem test_advance_gap : (after (.advance 1 (.ok (some 1))) { line4b with lineArray := [some ⟨101, 3⟩, none, none, none] }).lineArray =
      line4b.lineArray ∧
    (after (.advance 1 (.ok (some 1))) { line4b with lineArray := [some ⟨101, 3⟩, none, none, none] }).announced = line4b.announced := by
  decide
theorem test_withdraw_on_line : answer (after (.withdraw 1 (.ok 101)) line4b) = some (.refuse .state) := by decide
theorem test_withdraw_announced : (after (.withdraw 1 (.ok 102)) line4b).announced = [⟨103, 3⟩] := by decide
theorem test_advance_in_pause : answer (after (.advance 1 (.ok none)) { line4b with mode := .pause }) = some (.refuse .mode) := by
  decide
theorem test_lineSet_over_builds : answer (after (.lineSet 1 (.ok ⟨6, 600⟩)) line4b) = some (.refuse .state) := by decide

/-! ## Rack reconciliation (2.13) -/

def bulkDefn (loop : Nat) (q p size k : Nat) (rack : Option RackPlace) : SlotDefn :=
  ⟨.active, .bulk, 9, 0, loop, 0, rack, q, p, size, k, 0, 0, 0, []⟩

def aCall (slot : Nat) (cls : CallClass) (containers pieces : Nat) (state : CallState) (load : Option Nat) : Call :=
  ⟨slot, cls, containers, pieces, none, false, 100, 5, state, load, false, 0⟩

def aLoop (source : Source) (dispatch : Dispatch) (ret : Return) (window : WindowState) (slot : LoadSlot) : LoopRec :=
  { freshLoop ⟨2, [[], [6], []], 1, 300, 600, 300, 60, source, dispatch, ret⟩ with window := window, slot := slot }

def aDrop (index call slot stop unit : Nat) (status : DropStatus) : Drop :=
  ⟨index, call, slot, stop, 0, unit, 2, 10, status, false, false⟩

def aLoad (id loop : Nat) (drops : List Drop) : Load := ⟨id, loop, 900, drops, 1, 1, 1, 2⟩

/-- Slot 212 with the stock, the baselines and the calls at the start. -/
def rack212 : State := { State.reset with
  mode := .run
  slots := [(212, { freshSlot (bulkDefn 0 10 5 2 2 (some ⟨7, 3⟩)) with
    counted := true, f := 17, pullBase := some 41, tallyBase := some 6, cr := 4095, cp := 4095 })]
  loops := [(0, aLoop .internal .auto .auto .shut (.picking (aLoad 1 0 [aDrop 0 880 212 0 0 .pending]) 9000))]
  calls := [(865, aCall 212 .pull 1 10 .loaded (some 2)), (880, aCall 212 .cover 1 10 .planned (some 1)),
    (901, aCall 212 .cover 1 10 .opn none)]
  nextCall := 902
  trains := [(1, { freshTrain (some 0) with
    state := .onRun, place := some (.leg 0), leg := some 0, coupledAt := some 0, load := some (aLoad 2 0 [aDrop 0 865 212 0 0 .pending]) })]
  rackLink := { FieldLink.fresh 250 with terminals := [(0x47, ⟨true, 0, none, false⟩)], lastAddr := some 0x47, exchange := some 0x47 } }

/-- A reply of terminal 7 with the given counts at channel 3 and zeros elsewhere. -/
def rackFrame (pulls tally quantity : Nat) : List Byte :=
  frameBytes 0x47#8 0xC9#8 0 (List.replicate 12 0x00#8 ++ [byte pulls, byte tally] ++ bytes2 quantity ++ List.replicate 48 0x00#8)

/-- Event 1: two pulls empty the rack and make a PULL call of 2. -/
theorem test_rack_pulls : (tget (after (.rackReply (rackFrame 43 6 0)) rack212).slots 212).map (fun sl => (sl.f, sl.pullBase)) =
      some (0, some 43) ∧
    (tget (after (.rackReply (rackFrame 43 6 0)) rack212).calls 902).map (fun c => (c.cls, c.containers)) = some (.pull, 2) := by
  decide +kernel

/-- Event 3: a tally of 46 trims calls 901 and 902 away. -/
def rack212c : State := { rack212 with
  slots := tmod rack212.slots 212 fun sl => { sl with f := 10, pullBase := some 43 }
  calls := [(880, aCall 212 .cover 1 10 .planned (some 1)), (901, aCall 212 .cover 1 10 .opn none), (902, aCall 212 .pull 2 10 .opn none)]
  trains := [] }

theorem test_rack_tally : (tget (after (.rackReply (rackFrame 43 7 46)) rack212c).slots 212).map
      (fun sl => (sl.f, sl.tallyBase, sl.flags.oversupplied)) = some (46, some 7, true) ∧
    tkeys (after (.rackReply (rackFrame 43 7 46)) rack212c).calls = [880] ∧
    (after (.rackReply (rackFrame 43 7 46)) rack212c).roomOf 212 = -1 := by decide +kernel

/-! ## Coverage of one slot (3.11) -/

def covered : State := { State.reset with
  mode := .run, stations := 20, takt := 600, plantTime := 50
  lineArray := [some ⟨20, 7⟩, some ⟨19, 9⟩, none, some ⟨18, 7⟩, some ⟨17, 3⟩, some ⟨16, 3⟩] ++ List.replicate 14 none
  announced := [⟨21, 3⟩, ⟨22, 3⟩, ⟨23, 7⟩]
  slots := [(5, { freshSlot ⟨.active, .bulk, 9, 5, 0, 0, none, 12, 4, 2, 2, 10, 3, 40, [(3, 2), (7, 4), (9, 0)]⟩ with
    counted := true, f := 30 })]
  loops := [(0, { freshLoop ⟨1, [[], []], 1, 300, 600, 300, 1500, .internal, .auto, .auto⟩ with lastOpen := none })]
  calls := [(1, aCall 5 .cover 1 12 .loaded (some 3))]
  nextCall := 2
  trains := [(1, { freshTrain (some 0) with
    state := .onRun, place := some (.leg 0), leg := some 0, coupledAt := some 0, load := some (aLoad 3 0 [aDrop 0 1 5 0 0 .pending]) })] }

/-- The first recomputation, and after it the one that the raise brings. -/
theorem test_coverage_figures : ((tget covered.slots 5).map fun sl => ((covered.recomputed 5 { sl with f := 14 }).cr,
      (covered.recomputed 5 { sl with f := 14 }).cp)) = some (7, 11) ∧
    (tget (after (.slotCount 1 (.ok ⟨5, 14⟩)) covered).slots 5).map
      (fun sl => (sl.f, sl.cr, sl.cp, sl.trigger, sl.due)) = some (14, 7, 16, 28, 4250) ∧
    (tget (after (.slotCount 1 (.ok ⟨5, 14⟩)) covered).slots 5).map (fun sl => (sl.flags.low, sl.flags.risk)) = some (true, false) := by
  decide
theorem test_coverage_call : (tget (after (.slotCount 1 (.ok ⟨5, 14⟩)) covered).calls 2).map
    (fun c => (c.cls, c.containers, c.due)) = some (.cover, 1, 7) := by decide

/-! ## Sets at a SEQ slot (4.12) -/

def sets30 : State := { State.reset with
  mode := .run, stations := 6, plantTime := 70
  lineArray := [some ⟨200, 1⟩, some ⟨199, 1⟩, some ⟨198, 1⟩, none, none, none]
  announced := [⟨201, 1⟩, ⟨202, 2⟩, ⟨203, 4⟩], highest := some 203
  slots := [(30, { freshSlot ⟨.active, .seq, 9, 3, 0, 0, none, 3, 2, 2, 1, 0, 0, 0, [(1, 1), (4, 1)]⟩ with
    counted := true, f := 3, setPointer := some 200 })]
  loops := [(0, aLoop .internal .auto .auto .shut .empty)]
  nextCall := 501 }

theorem test_set_called : (tget (after (.announce 1 (.ok [⟨204, 4⟩, ⟨205, 2⟩, ⟨206, 1⟩])) sets30).calls 501).map
      (fun c => (c.cls, c.set, c.pieces, c.due)) = some (.seq, some (201, 204), 3, 3) ∧
    (tget (after (.announce 1 (.ok [⟨204, 4⟩, ⟨205, 2⟩, ⟨206, 1⟩])) sets30).slots 30).bind Slot.setPointer = some 204 := by
  decide
theorem test_partial_set_flushed : (tget (after (.seqFlush 1 (.ok 30)) sets30).calls 501).map (fun c => (c.set, c.pieces)) =
    some (some (201, 203), 2) := by decide

def sets30b : State := { sets30 with
  announced := [⟨203, 4⟩, ⟨204, 4⟩, ⟨206, 1⟩]
  calls := [(501, { aCall 30 .seq 1 3 .opn none with set := some (201, 204) })]
  slots := tmod sets30.slots 30 fun sl => { sl with setPointer := some 204 } }

theorem test_withdraw_breaks_set : (tget (after (.withdraw 1 (.ok 204)) sets30b).calls 501).map (fun c => (c.broken, c.pieces)) =
    some (true, 3) := by decide

/-! ## Packing a load (5.11) -/

def packCallOf (slot : Nat) (cls : CallClass) (containers pieces at_ due : Nat) : Call :=
  ⟨slot, cls, containers, pieces, if cls = .seq then some (1, 3) else none, false, at_, due, .opn, none, false, 0⟩

def packSlot (stop q size : Nat) : Slot := { freshSlot ⟨.active, .bulk, 9, 0, 2, stop, none, q, 9, size, 2, 0, 0, 0, []⟩ with counted := true }

def packing : State := { State.reset with
  mode := .run
  slots := [(30, packSlot 1 3 2), (40, packSlot 3 8 4), (51, packSlot 0 50 1), (62, packSlot 3 6 4), (70, packSlot 2 12 2),
    (71, packSlot 0 20 1), (73, packSlot 1 10 2)]
  loops := [(2, { freshLoop ⟨4, [[], [], [], [], []], 2, 300, 600, 300, 60, .internal, .auto, .auto⟩ with
    window := .opn, expiry := some 0, active := some .continuous })]
  calls := [(598, packCallOf 30 .seq 1 3 10 9), (602, packCallOf 62 .cover 2 6 20 4), (605, packCallOf 51 .pull 3 50 30 3),
    (607, packCallOf 70 .cover 1 12 40 6), (609, packCallOf 71 .cover 3 20 50 6), (610, packCallOf 73 .cover 2 10 60 9),
    (611, packCallOf 40 .expedite 1 8 70 5)] }

theorem test_packing_drops : (match (tget (after (.windowExpiry 2) packing).loops 2).map LoopRec.slot with
    | some (.picking l _) => l.drops.map fun d => (d.call, d.stop, d.wagon, d.unit, d.pieces)
    | _ => []) =
    [(605, 0, 0, 6, 50), (605, 0, 0, 7, 50), (605, 0, 1, 0, 50), (609, 0, 1, 1, 20), (609, 0, 1, 4, 20), (609, 0, 1, 5, 20),
      (598, 1, 0, 4, 3), (607, 2, 1, 2, 12), (611, 3, 0, 0, 8)] := by decide
theorem test_packing_calls : (after (.windowExpiry 2) packing).calls.map (fun e => (e.1, e.2.state)) =
    [(598, .planned), (602, .opn), (605, .planned), (607, .planned), (609, .planned), (610, .opn), (611, .planned)] := by decide

/-! ## A window deferred into CLOSE_WAIT (5.12) -/

def waiting4 (drop : Drop) : State := { State.reset with
  mode := .run, plantTime := 21500
  slots := [(1, packSlot 0 10 2)]
  calls := [(1, aCall 1 .cover 1 10 .planned (some 17))]
  loops := [(2, { aLoop .internal .auto .auto .closeWait (.staged (aLoad 17 2 [drop])) with
    lastOpen := some 13000, active := some (.times 2), waiting := [.times 2] })]
  trains := [(1, { freshTrain (some 2) with state := .parked, location := .home })]
  homeQ := [1] }

/-- At 2150 the coupling frees the slot, the deferred close is empty here, and the window opens again until 2450. -/
theorem test_deferred_close : (tget (after (.couplingBegin 2) (waiting4 (aDrop 0 1 1 0 0 .pending))).loops 2).map
      (fun r => (r.window, r.expiry, r.active, r.waiting)) = some (.opn, some 24500, some (.times 1), [.times 2]) ∧
    (tget (after (.couplingBegin 2) (waiting4 (aDrop 0 1 1 0 0 .pending))).trains 1).map Train.state = some .coupling := by decide

/-! ## A run cut at a stop (6.13) -/

def run5 (state : TrainState) (place : Place) (sts : List DropStatus) : State := { State.reset with
  mode := .run, plantTime := 500
  slots := [(120, { packSlot 0 24 2 with f := 44, dfn := { (packSlot 0 24 2).dfn with p := 2 } }),
    (121, { packSlot 1 10 2 with f := 14, dfn := { (packSlot 1 10 2).dfn with p := 4 } }),
    (122, { packSlot 1 30 1 with f := 45, dfn := { (packSlot 1 30 1).dfn with p := 2 } }),
    (130, { packSlot 2 6 1 with f := 4, dfn := { (packSlot 2 6 1).dfn with p := 2 } })]
  calls := [(701, aCall 121 .cover 2 10 .loaded (some 40)), (702, aCall 122 .pull 1 30 .loaded (some 40)),
    (703, aCall 130 .expedite 1 6 .loaded (some 40))]
  loops := [(5, freshLoop ⟨3, [[], [], [], []], 1, 300, 600, 300, 60, .internal, .auto, .auto⟩)]
  trains := [(3, { freshTrain (some 5) with
    state := state, place := some place, leftHome := true, leg := some 1, coupledAt := some 0
    load := some (aLoad 40 5 ([(0, 700, 120, 0, 2), (1, 702, 122, 1, 1), (2, 701, 121, 1, 4), (3, 701, 121, 1, 6), (4, 703, 130, 2, 0)].zipWith
      (fun d st => aDrop d.1 d.2.1 d.2.2.1 d.2.2.2.1 d.2.2.2.2 st) sts)) })]
  trainLink := { FieldLink.fresh 250 with terminals := [(trainAddress 3, ⟨true, 0, none, false⟩)], exchange := some (trainAddress 3) } }

/-- The drop statuses of train 3 after a command. -/
def statuses (c : Instr) (s : State) : List DropStatus := match tget (after c s).trains 3 with | some x => x.drops.map Drop.status | none => []

/-- A reply of train 3: place code and number, load, done flags. -/
def trainFrame (code number : Nat) (load done : Nat) : List Byte :=
  frameBytes (byte (trainAddress 3)) 0xC1#8 0
    ([byte code, byte number] ++ bytes2 load ++ [0x01#8] ++ bytes4 done ++
      [0xFF#8, 0x00#8, 0x00#8, 0xFF#8, 0xFF#8, 0x00#8, 0xFF#8, 0xFF#8, 0xFF#8, 0x50#8, 0x00#8])

theorem test_cut : statuses (.cut 1 (.ok 3)) (run5 .atStop (.stop 1) [.dropped, .hold, .dropped, .go, .pending]) =
      [.dropped, .carried, .dropped, .carried, .carried] ∧
    answer (after (.cut 1 (.ok 3)) (run5 .atStop (.stop 1) [.dropped, .hold, .dropped, .go, .pending])) =
      some (.accept [.small (some 3), .half (some 40), .small (some 2), .small (some 3)]) := by decide
theorem test_arrival_marks : statuses (.trainReply (trainFrame 2 1 40 1)) (run5 .onRun (.leg 1) [.dropped, .pending, .pending, .pending, .pending]) =
    [.dropped, .hold, .go, .go, .pending] := by decide +kernel
theorem test_late_done : statuses (.trainReply (trainFrame 2 1 40 13)) (run5 .returning (.stop 1) [.dropped, .carried, .dropped, .carried, .carried]) =
      [.dropped, .carried, .dropped, .carried, .carried] ∧
    ((tget (after (.trainReply (trainFrame 2 1 40 13)) (run5 .returning (.stop 1) [.dropped, .carried, .dropped, .carried, .carried])).slots
      121).map Slot.f) = some 14 := by decide +kernel

/-! ## A crossing with an entry window of two (7.10) -/

/-- Zone 6 just before 160. -/
def zone6 : State := { State.reset with
  mode := .run, plantTime := 1600, gateLimit := 50
  zones := [(6, ⟨⟨2, 2, 60⟩, [], [⟨3, 1050, true⟩, ⟨4, 1200, false⟩], [1000, 1020], []⟩)] }

theorem test_zone_grants_one : (tget (after (.grantAgeOut 6) zone6).zones 6).map
    (fun z => (z.occupants.map Occupant.train, z.queue.map Waiter.train, z.history)) = some ([3], [4], [1000, 1020, 1600]) := by
  decide
theorem test_zone_lapse : (tget (after (.grantLapse 6 4) { zone6 with
      plantTime := 1920, zones := [(6, ⟨⟨2, 2, 60⟩, [⟨4, false, 1620, none⟩], [], [1600, 1620], []⟩)]
      trainLink := { FieldLink.fresh 250 with terminals := [(trainAddress 4, ⟨true, 0, none, false⟩)] } }).zones 6).map
    (fun z => (z.occupants, z.history)) = some ([], [1600, 1620]) := by decide

/-! ## Two hot orders on one train (8.7) -/

def slot88 (f h : Nat) (box : Option Hot) (shelf : List Hot) : State := { State.reset with
  mode := .run, plantTime := 300
  slots := [(88, { freshSlot (bulkDefn 1 20 3 2 2 none) with counted := true, f := f, h := h })]
  loops := [(1, aLoop .internal .auto .auto .shut .empty)]
  trains := [(3, { freshTrain (some 1) with state := .parked, location := .home, hotBox := box, shelf := shelf })]
  homeQ := [3], nextHot := 41
  trainLink := { FieldLink.fresh 250 with terminals := [(trainAddress 3, ⟨true, 0, none, false⟩)], exchange := some (trainAddress 3) } }

theorem test_hot_taken_by_table : (tget (after (.hotcall 1 (.ok ⟨3, 88, 1⟩)) (slot88 15 0 none [])).trains 3).bind
      (fun x => x.hotBox.map Hot.id) = some 41 ∧
    (tget (after (.hotcall 1 (.ok ⟨3, 88, 1⟩)) (slot88 15 0 none [])).slots 88).map Slot.h = some 1 ∧
    answer (after (.hotcall 1 (.ok ⟨3, 88, 1⟩)) (slot88 15 1 (some ⟨41, 88, 1, 20, 0, none, .box⟩) [])) = some (.refuse .boxFull) := by
  decide

/-- A reply at home with the taken id 41 and the delivered ids 42 (as in the last full reply, the order 42 still in the box). -/
theorem test_hot_taken_and_delivered :
    let t := after (.trainReply (frameBytes (byte (trainAddress 3)) 0xC1#8 0 ([0x00#8, 0x00#8, 0xFF#8, 0xFF#8, 0x00#8] ++ bytes4 0 ++
      [0xFF#8, 41#8, 0x01#8, 42#8, 0xFF#8, 0x00#8, 0xFF#8, 0xFF#8, 0xFF#8, 0x50#8, 0x00#8])))
      (slot88 25 1 (some ⟨42, 88, 1, 20, 0, none, .box⟩) [])
    (tget t.slots 88).map (fun sl => (sl.f, sl.h)) = some (45, 0) ∧
      (tget t.trains 3).map (fun x => (x.hotBox, x.shelf)) = some (none, []) := by decide +kernel


/-! ## Witnesses: a state and operands that meet each statement's hypotheses together -/

/-- A yard with a record of every kind: bulk slots 0, 2 and 3, SEQ slot 1; loops 0 (INTERNAL, HELD, HOLD, window due), 1 (EXTERNAL) and
2 (INTERNAL, AUTO, a load being picked); trains in most of their states; zone 6 with an occupant and a waiter. -/
def yard : State := { State.reset with
  mode := .run, plantTime := 1000, stations := 4, lineArray := [some ⟨100, 3⟩, none, none, none]
  announced := [⟨101, 3⟩, ⟨102, 3⟩, ⟨103, 3⟩], highest := some 103
  slots := [
    (0, { freshSlot (bulkDefn 0 10 5 2 2 (some ⟨7, 3⟩)) with counted := true, f := 17, pullBase := some 41, tallyBase := some 6 }),
    (1, { freshSlot ⟨.active, .seq, 9, 3, 0, 0, none, 2, 4, 2, 1, 0, 0, 0, [(3, 1)]⟩ with counted := true }),
    (2, { freshSlot (bulkDefn 0 10 5 2 2 none) with counted := true, f := 30 }),
    (3, { freshSlot (bulkDefn 2 10 5 2 2 none) with counted := true, f := 10 })]
  calls := [(10, aCall 0 .cover 1 10 .opn none), (11, aCall 3 .pull 1 10 .planned (some 5)), (12, aCall 3 .cover 1 10 .planned (some 5)),
    (13, { aCall 1 .seq 1 2 .opn none with set := some (101, 102) }), (14, aCall 2 .cover 1 10 .loaded (some 6))]
  nextCall := 20
  loops := [(0, { aLoop .internal .held .hold .opn .empty with expiry := some 1000, active := some (.times 2) }),
    (1, aLoop .external .auto .auto .shut .empty),
    (2, aLoop .internal .auto .auto .shut (.picking (aLoad 5 2 [aDrop 0 11 3 0 0 .pending, aDrop 1 12 3 0 2 .pending]) 1000))]
  nextLoad := 10
  trains := [
    (0, { freshTrain (some 0) with state := .parked, location := .home, battery := some 80, noteBox := some ⟨3, 1, some 2, 900⟩ }),
    (1, { freshTrain (some 0) with state := .ready, location := .home, coupledAt := some 500, load := some (aLoad 6 0 [aDrop 0 14 2 0 0 .pending]) }),
    (2, { freshTrain (some 0) with
      state := .onRun, place := some (.leg 0), leg := some 0, location := .leg 0, coupledAt := some 500
      load := some (aLoad 7 0 [aDrop 0 15 2 0 0 .pending]), wish := ⟨some 6, some 0⟩ }),
    (3, { freshTrain (some 0) with
      state := .holding, place := some (.stop 1), leg := some 2, coupledAt := some 500
      load := some (aLoad 8 0 [aDrop 0 16 2 1 0 .dropped]) }),
    (4, { freshTrain (some 0) with state := .coupling, location := .home, coupledAt := some 0, load := some (aLoad 9 0 [aDrop 0 17 2 0 0 .pending]) }),
    (5, { freshTrain (some 0) with state := .outOfService, location := .home }),
    (6, { freshTrain none with state := .chargeWait, location := .home })]
  homeQ := [0], departQ := [], chargeQ := [6], fleet := ⟨1, 25, 90, 30, 60⟩
  zones := [(6, ⟨⟨2, 2, 60⟩, [⟨3, true, 200, none⟩, ⟨2, false, 300, none⟩], [⟨4, 100, false⟩], [200, 300], []⟩)]
  trainLink := { FieldLink.fresh 250 with
    terminals := [(trainAddress 2, ⟨true, 2, none, false⟩), (trainAddress 3, ⟨true, 0, none, false⟩)], exchange := some (trainAddress 2) }
  rackLink := { FieldLink.fresh 250 with terminals := [(0x47, ⟨true, 0, none, false⟩)], lastAddr := some 0x47, exchange := some 0x47 } }

/-- The yard with a store running. -/
def storing : State := { yard with store := .storing yard.config }

/-- What the yard holds of slots, loops and trains, by id. -/
def slotOf (i : Nat) : Slot := (tget yard.slots i).getD (freshSlot (bulkDefn 0 1 1 1 1 none))
def loopOf (s : State) (l : Nat) : LoopRec := (tget s.loops l).getD (aLoop .internal .auto .auto .shut .empty)
def trainOf (s : State) (i : Nat) : Train := (tget s.trains i).getD (freshTrain none)

theorem yard_slots (i : Nat) (h : i ≤ 3) : tget yard.slots i = some (slotOf i) := by
  match i, h with | 0, _ | 1, _ | 2, _ | 3, _ => rfl
theorem yard_trains (i : Nat) (h : i ≤ 6) : tget yard.trains i = some (trainOf yard i) := by
  match i, h with | 0, _ | 1, _ | 2, _ | 3, _ | 4, _ | 5, _ | 6, _ => rfl
theorem yard_loops (l : Nat) (h : l ≤ 2) : tget yard.loops l = some (loopOf yard l) := by
  match l, h with | 0, _ | 1, _ | 2, _ => rfl
theorem yard_callIdsUnique : yard.callIdsUnique := by unfold State.callIdsUnique; decide

theorem test_can_stepRunsFrontCommand : ({ yard with pending := [.departureGo, .reportSend] } : State).pending = [.departureGo, .reportSend] := rfl
theorem test_can_idleStep : yard.pending = [] ∧ yard.requestQueue = [] ∧
    ({ yard with requestQueue := [⟨0x02#8, 7, [0x02#8]⟩], msPart := 99 } : State).requestQueue = [⟨0x02#8, 7, [0x02#8]⟩] := ⟨rfl, rfl, rfl⟩
theorem test_can_requestsAnsweredOnce : (Instr.hotcall 7 (.ok ⟨0, 2, 1⟩)).wellFormed = true ∧
    (Instr.hotcall 7 (.ok ⟨0, 2, 1⟩)).answers = some (0x29#8, 7) := by decide
theorem test_can_modeStays : ∃ t, exec .departureGo yard = .next t ∧ (∀ tag m, Instr.departureGo ≠ .lineMode tag m) ∧
    Instr.departureGo ≠ .powerUp ∧ (∀ tag a, Instr.departureGo ≠ .restartFull tag a) ∧ ∀ tag a, Instr.departureGo ≠ .restartShift tag a :=
  ⟨after .departureGo yard, rfl, nofun, nofun, nofun, nofun⟩

/-- The invariants hold in the yard, here with a store running, and a step from it answers a next state. -/
theorem test_can_invariants : ({ storing with pending := [.chargerGranted] } : State).copyCurrent ∧
    ({ storing with pending := [.chargerGranted] } : State).bounded ∧ ({ storing with pending := [.chargerGranted] } : State).stockBounded ∧
    ({ storing with pending := [.chargerGranted] } : State).zonesBounded ∧ ({ storing with pending := [.chargerGranted] } : State).sorted ∧
    ({ storing with pending := [.chargerGranted] } : State).chargersBounded ∧
    ({ storing with pending := [.chargerGranted] } : State).callIdsUnique ∧
    ∃ t, step { storing with pending := [.chargerGranted] } = .next t := by
  refine ⟨?_, ?_, ?_, ?_, ?_, ?_, ?_, ⟨after .chargerGranted storing, rfl⟩⟩
  · intro c h; cases h; rfl
  · unfold State.bounded; decide
  · unfold State.stockBounded; decide
  · unfold State.zonesBounded; decide
  · unfold State.sorted; decide
  · unfold State.chargersBounded; decide
  · unfold State.callIdsUnique; decide

theorem test_can_powerUp : (State.reset.imageCheck = false ∨ State.reset.badMark = true) ∧
    ({ yard with image := yard.config, imageCheck := true } : State).imageCheck = true ∧
    ({ yard with image := yard.config, imageCheck := true } : State).badMark = false := ⟨.inl rfl, rfl, rfl⟩
theorem test_can_storeAndRestart : yard.store = .idle ∧ storing.store = .storing yard.config ∧ ReadBack.differs ≠ .matched ∧
    ReadBack.incomplete ≠ .matched := ⟨rfl, rfl, nofun, nofun⟩
theorem test_can_settings : (none : Option Nat).getD 0 = 0 ∧ (some 0).getD 0 = 0 ∧ yard.store = .idle ∧ yard.mode ≠ .pause ∧ (1 : Nat) ≤ 1 ∧
    100 ≤ (⟨100, 2000⟩ : LinkSetArgs).train ∧ (⟨100, 2000⟩ : LinkSetArgs).rack ≤ 2000 := by decide
theorem test_can_query : (383 : Nat) ≤ 383 ∧ tget yard.slots 383 = none ∧ (tget yard.slots 3).isSome ∧ (13 : Nat) ≠ 0 ∧ (tget yard.calls 13).isSome ∧
    tget yard.loops 11 = none ∧ tget yard.trains 7 = none ∧ tget yard.zones 15 = none := by decide
theorem test_can_frames : 0x5A#8 ∉ ([0x00#8] : List Byte) ∧ ([0x01#8, 0x5A#8] : List Byte).length ≤ 1024 := by decide
theorem test_can_requestKinds : 0x06#8 ∉ requestKinds ∧ requestKinds.contains (⟨0x06#8, 7, []⟩ : Request).kind = false := by decide
theorem test_can_lineFrames : yard.requestQueue.length < 8 ∧
    8 ≤ ({ yard with requestQueue := List.replicate 8 ⟨0x02#8, 7, [0x02#8]⟩ } : State).requestQueue.length ∧
    readFrame [0x5A#8, 0x00#8, 0x00#8, 0x00#8, 0x02#8, 0x01#8, 0x00#8, 0x00#8] = .frame false 0 0x02#8 0x01#8 [] ∧
    readFrame (frameBytes 0x09#8 0x02#8 0x01#8 []) = .frame true 0x09#8 0x02#8 0x01#8 [] ∧ (0x09#8 : Byte) ≠ 0 ∧ (1024 : Nat) < 1025 := by
  decide +kernel
theorem test_can_reports : State.reset.reportQueue = [⟨.restart, 0, [.code (some 0), .flags [true, false, false, true], .code (some 1)]⟩] ∧
    yard.reportQueue.length < 64 ∧ ({ yard with reportQueue := [] } : State).reportQueue = [] ∧
    64 ≤ (List.replicate 64 (⟨.window, 0, []⟩ : Report)).length := by decide

theorem test_can_lineSet : (128 : Nat) ≤ 128 ∧ (300 : Nat) ≤ 300 ∧ yard.store = .idle ∧ (4 = yard.stations ∨ ∀ p ∈ yard.lineArray, p = none) ∧
    ∀ p ∈ State.reset.lineArray, p = none := by decide
theorem test_can_lineMode : readMode 2 = .closed ∧ yard.mode ≠ .closed ∧ readMode 1 ≠ yard.mode ∧ readMode 0 = yard.mode := by decide
theorem test_can_announce : (∀ b ∈ ([⟨104, 31⟩, ⟨106, 0⟩] : List Build), 1 ≤ b.serial ∧ b.model ≤ 31) ∧
    ([⟨104, 31⟩, ⟨106, 0⟩] : List Build).Pairwise (fun a b => a.serial < b.serial) ∧
    (∀ b ∈ ([⟨104, 31⟩, ⟨106, 0⟩] : List Build), yard.highest.getD 0 < b.serial) ∧ yard.announced.length + 2 ≤ 256 := by decide
theorem test_can_withdraw : (102 : Nat) ≠ 0 ∧ (∀ p ∈ yard.lineArray, ∀ x, p = some x → x.serial ≠ 102) ∧
    yard.announced.find? (fun x : Build => x.serial == 102) = some ⟨102, 3⟩ ∧ tget yard.calls 13 = some { aCall 1 .seq 1 2 .opn none with set := some (101, 102) } := by
  refine ⟨by decide, ?_, rfl, rfl⟩
  intro p hp x hx
  subst hx
  simp only [yard, List.mem_cons, Option.some.injEq, reduceCtorEq, List.not_mem_nil, or_false] at hp
  subst hp
  decide
theorem test_can_advance : yard.mode = .run ∧ (some 1).getD 0 ≤ 1 ∧ (none : Option Nat).getD 0 ≤ 1 ∧ tsorted yard.slots = true := by decide
theorem test_can_lineRefusals : ¬ (1 ≤ 0 ∧ 0 ≤ 128) ∧ storing.store = .storing yard.config ∧ (5 : Nat) ≠ yard.stations ∧
    some ⟨100, 3⟩ ∈ yard.lineArray ∧ ({ yard with mode := .pause } : State).mode ≠ .run ∧ 256 < 255 + ([⟨104, 31⟩, ⟨106, 0⟩] : List Build).length ∧
    ¬ ([⟨106, 31⟩, ⟨104, 0⟩] : List Build).Pairwise (fun a b => a.serial < b.serial) := by decide

def freshArgs : SlotDefArgs := ⟨9, 0, 9, 0, 0, 1, some 7, 4, 10, 5, 2, 2, 0, 0, 0, [(3, 4)]⟩
theorem test_can_slotDef : freshArgs.usage.length ≤ 8 ∧ slotDefInRange freshArgs = true ∧ (freshArgs.usage.map Prod.fst).Nodup ∧ yard.store = .idle ∧
    tget yard.loops freshArgs.loop = some (loopOf yard 0) ∧ freshArgs.stop < (loopOf yard 0).dfn.stops ∧
    (∀ e ∈ yard.slots, e.1 ≠ freshArgs.slot → e.2.dfn.rack ≠ slotDefPlace freshArgs) ∧ (∀ e ∈ yard.calls, e.2.slot ≠ freshArgs.slot) ∧
    tget yard.slots freshArgs.slot = none ∧ (∀ l ∈ yard.allLoads, ∀ d ∈ l.drops, d.slot ≠ freshArgs.slot) := by decide
/-- Undefining, and defining over a record: slot 0 once its call is gone. -/
theorem test_can_slotUndefine : (∀ e ∈ ({ yard with calls := [] } : State).calls, e.2.slot ≠ 0) ∧ (slotOf 0).h = 0 ∧
    tget yard.slots 0 = some (slotOf 0) ∧ ∀ l ∈ ({ yard with calls := [] } : State).allLoads, ∀ d ∈ l.drops, d.slot ≠ 0 := by decide
theorem test_can_slotState : tget yard.slots 3 = some (slotOf 3) ∧ (slotOf 3).dfn.state = .active ∧ readSlotState 0 = (slotOf 3).dfn.state ∧
    yard.store = .idle ∧ yard.callIdsUnique := ⟨rfl, rfl, rfl, rfl, yard_callIdsUnique⟩
theorem test_can_slotCount : tget yard.slots 0 = some (slotOf 0) ∧ (0 : Nat) ≤ 383 ∧ (9999 : Nat) ≤ 9999 ∧ yard.callIdsUnique :=
  ⟨rfl, by decide, by decide, yard_callIdsUnique⟩
theorem test_can_walk : (walk [2, 4, 0] 5).1 < 3 ∧ (walk [2, 4, 0] 8).1 = 3 ∧ ([2, 4, 0] : List Nat).sum ≤ 6 ∧ (5 : Nat) ≤ 6 := by decide

theorem test_can_expedite : yard.callIdsUnique ∧ tget yard.slots 2 = some (slotOf 2) ∧ (slotOf 2).dfn.kind = .bulk ∧ (slotOf 2).counted = true ∧
    1 ≤ yard.room 2 (slotOf 2) ∧ yard.calls.length < 512 ∧ yard.mode ≠ .pause :=
  ⟨yard_callIdsUnique, rfl, rfl, rfl, by decide, by decide +kernel, nofun⟩
theorem test_can_cancel : yard.callIdsUnique ∧ (tget yard.calls 10).map Call.state = some .opn ∧
    tget yard.calls 11 = some (aCall 3 .pull 1 10 .planned (some 5)) ∧ tget yard.slots 3 = some (slotOf 3) ∧
    tget yard.loops (slotOf 3).dfn.loop = some (loopOf yard 2) ∧ (loopOf yard 2).slot.load?.map Load.id = some 5 ∧
    (∃ d ∈ ((loopOf yard 2).slot.load?.map Load.drops).getD [], d.call ≠ 11 ∧ d.status ≠ .void) ∧ (loopOf yard 2).window ≠ .closeWait :=
  ⟨yard_callIdsUnique, by decide, rfl, rfl, rfl, rfl, by decide +kernel, nofun⟩
/-- The load whose one drop is the cancelled call's. -/
theorem test_can_cancel_last : (∀ d ∈ (aLoad 5 2 [aDrop 0 11 3 0 0 .pending]).drops, d.call = 11 ∨ d.status = .void) ∧
    ∃ d ∈ (aLoad 5 2 [aDrop 0 11 3 0 0 .pending]).drops, d.call = 11 := by decide
theorem test_can_seqFlush : (slotOf 1).dfn.kind = .seq ∧ (slotOf 1).counted = true ∧
    ((yard.pendingBuilds (slotOf 1)).take (slotOf 1).dfn.q).head? = some ⟨101, 3⟩ ∧
    ((yard.pendingBuilds (slotOf 1)).take (slotOf 1).dfn.q).getLast? = some ⟨102, 3⟩ ∧ 1 ≤ yard.room 1 (slotOf 1) ∧ yard.calls.length < 512 := by
  decide

def redef : LoopDefArgs := ⟨9, 1, 1, 300, 600, 300, 60, 0, 0, 0, [[], [6]]⟩
/-- A loop that is new, and one whose source changes. -/
theorem test_can_loopDef : redef.gates.length = redef.stops + 1 ∧ (∀ g ∈ redef.gates, g.length ≤ 4 ∧ g.Nodup) ∧ loopDefInRange redef = true ∧
    yard.store = .idle ∧ yard.loopDefinable redef = true ∧ tget yard.loops 9 = none ∧
    yard.loopDefinable { redef with loop := 1 } = true ∧ (loopOf yard 1).dfn.source ≠ (loopDefDefn { redef with loop := 1 }).source ∧
    yard.loopUndefinable 1 = true := by decide
theorem test_can_cycle : cycleInRange (.times 15) = true ∧ tget yard.loops 0 = some (loopOf yard 0) ∧ (loopOf yard 0).dfn.source = .internal ∧
    (loopOf yard 0).active.isSome ∧ (loopOf yard 0).waiting.length < 2 ∧ 2 ≤ ([.times 1, .continuous] : List CycleCount).length := by decide
/-- Loop 2 has no request and its window may open, with a window time above 0 and of 0; in CLOSED it may not. -/
theorem test_can_cycle_opens : tget yard.loops 2 = some (loopOf yard 2) ∧ (loopOf yard 2).active = none ∧ (loopOf yard 2).window = .shut ∧
    (loopOf yard 2).earliest ≤ yard.plantTime ∧ yard.modeOpens 2 = true ∧ 0 < (loopOf yard 2).dfn.window ∧
    ({ yard with mode := .closed } : State).modeOpens 2 = false ∧
    ({ (loopOf yard 2).dfn with window := 0 } : LoopDefn).window = 0 := by decide
theorem test_can_cycleStop : (11 : Nat) ≤ 11 ∧ tget yard.loops 11 = none ∧ (loopOf yard 1).dfn.source = .external ∧ (loopOf yard 2).dfn.source = .internal ∧
    (loopOf yard 2).window = .shut ∧ (loopOf yard 2).active = none ∧ (loopOf yard 2).waiting = [] := by decide
theorem test_can_windowOpen : tget yard.loops 1 = some (loopOf yard 1) ∧ (loopOf yard 1).dfn.source = .external ∧ yard.mode ≠ .closed ∧
    (loopOf yard 1).window = .shut := ⟨rfl, rfl, nofun, rfl⟩
/-- The yard with a request at loop 2, so that its window opens of itself; with a window of 0 s it is also closed at once. -/
def askedAt (window : Nat) : State := yard.modLoop 2 fun r => { r with active := some .continuous, dfn := { r.dfn with window := window } }
theorem test_can_windowOpenTime : (loopOf (askedAt 300) 2).dfn.source = .internal ∧ (loopOf (askedAt 300) 2).window = .shut ∧
    (loopOf (askedAt 300) 2).active.isSome ∧ (loopOf (askedAt 300) 2).earliest ≤ yard.plantTime ∧ (askedAt 300).mode = .run ∧
    0 < (loopOf (askedAt 300) 2).dfn.window ∧ (loopOf (askedAt 0) 2).dfn.window = 0 ∧
    (loopOf yard 2).active = none := by decide
theorem test_can_close_taken : yard.callIdsUnique ∧ tget yard.loops 0 = some (loopOf yard 0) ∧ (loopOf yard 0).slot = .empty ∧
    (loopOf yard 0).window = .opn ∧ (∃ x, (loopOf yard 0).expiry = some x ∧ x ≤ yard.plantTime) ∧
    (yard.pack 0 (loopOf yard 0).dfn.wagons).placed ≠ [] ∧ 0 < (loopOf yard 0).dfn.pick :=
  ⟨yard_callIdsUnique, rfl, rfl, rfl, ⟨1000, rfl, by decide⟩, by decide, by decide⟩
/-- The window of loop 2, open and then waiting, over the load being picked; an empty CLOSE_WAIT; an open EXTERNAL window. -/
theorem test_can_close_deferred :
    let s := yard.modLoop 2 fun r => { r with window := .opn, expiry := some 1000 }
    let e := yard.modLoop 1 fun r => { r with window := .opn, slot := .staged (aLoad 5 1 []) }
    tget s.loops 2 = some (loopOf s 2) ∧ (loopOf s 2).window = .opn ∧ (loopOf s 2).slot ≠ .empty ∧ (∃ x, (loopOf s 2).expiry = some x ∧ x ≤ s.plantTime) ∧
      (loopOf e 1).window = .opn ∧ (loopOf e 1).dfn.source = .external ∧ (loopOf e 1).slot ≠ .empty ∧
      (loopOf (yard.modLoop 1 fun r => { r with window := .opn }) 1).slot = .empty ∧
      (loopOf (yard.modLoop 0 fun r => { r with window := .closeWait }) 0).slot = .empty :=
  ⟨rfl, rfl, nofun, ⟨1000, rfl, by decide⟩, rfl, rfl, nofun, rfl, rfl⟩
theorem test_can_close_not : (loopOf yard 2).window ≠ .opn ∧ (loopOf yard 2).window ≠ .closeWait ∧
    ∀ x, (loopOf (yard.modLoop 0 fun r => { r with expiry := some 1001 }) 0).expiry = some x → yard.plantTime < x := by
  refine ⟨nofun, nofun, ?_⟩
  intro x h
  cases h
  decide
theorem test_can_pick : (loopOf yard 2).slot = .picking (aLoad 5 2 [aDrop 0 11 3 0 0 .pending, aDrop 1 12 3 0 2 .pending]) 1000 ∧
    (1000 : Nat) ≤ yard.plantTime ∧ yard.parkedFor 2 = none ∧ ({ yard with plantTime := 999 } : State).plantTime < 1000 :=
  ⟨rfl, by decide, by decide, by decide⟩
theorem test_can_couple : (waiting4 (aDrop 0 1 1 0 0 .pending)).callIdsUnique ∧
    (tget (waiting4 (aDrop 0 1 1 0 0 .pending)).loops 2).map LoopRec.slot = some (.staged (aLoad 17 2 [aDrop 0 1 1 0 0 .pending])) ∧
    (waiting4 (aDrop 0 1 1 0 0 .pending)).mode ≠ .closed ∧ (waiting4 (aDrop 0 1 1 0 0 .pending)).parkedFor 2 = some 1 ∧
    (tget (waiting4 (aDrop 0 1 1 0 0 .pending)).trains 1).isSome ∧
    (tget (waiting4 (aDrop 0 1 1 0 0 .pending)).calls 1).map Call.state = some .planned := by
  refine ⟨?_, rfl, nofun, by decide, rfl, rfl⟩
  unfold State.callIdsUnique
  decide

theorem test_can_trainDef : tget yard.trains 0 = some (trainOf yard 0) ∧ (trainOf yard 0).state = .parked ∧ (trainOf yard 0).hotBox = none ∧
    (trainOf yard 0).shelf = [] ∧ (tget yard.loops 2).isSome ∧ tget yard.trains 7 = none ∧ yard.store = .idle := by decide
/-- New settings within range, over no charging train, with train 4 past the new couple limit of 60 s. -/
theorem test_can_fleet : (⟨4, 10, 20, 600, 60⟩ : Fleet).startLevel < (⟨4, 10, 20, 600, 60⟩ : Fleet).endLevel ∧ yard.store = .idle ∧ yard.chargingCount ≤ 4 ∧
    ({ yard with chargeQ := [] } : State).chargeQ = [] ∧ yard.departQ = [] ∧ (∀ e ∈ yard.trains, e.2.state ≠ .charging) ∧
    (trainOf yard 4).state = .coupling ∧ (trainOf yard 4).load.isSome ∧ (trainOf yard 4).coupledAt = some 0 ∧ 0 + 60 * 10 ≤ yard.plantTime := by
  decide
theorem test_can_assign : tget yard.trains 5 = some (trainOf yard 5) ∧ (trainOf yard 5).state = .outOfService ∧ (tget yard.loops 2).isSome ∧
    yard.mode ≠ .closed ∧ ∀ ld, (loopOf yard 2).slot ≠ .staged ld := by
  refine ⟨rfl, rfl, rfl, nofun, ?_⟩
  intro ld
  exact nofun
theorem test_can_release : (trainOf yard 1).state = .ready ∧ yard.autoDispatch (trainOf yard 1) = false ∧ 1 ∉ yard.departQ ∧ yard.departQ = [] ∧
    yard.mayGo = true ∧ ({ yard with departQ := [4] } : State).departQ ≠ [] ∧ ({ yard with mode := .closed } : State).mayGo = false := by decide
theorem test_can_departureGo :
    let s := { yard with departQ := [1], lastGo := some 700 }
    s.departQ = [1] ∧ s.mode ≠ .closed ∧ (∀ g, s.lastGo = some g → g + s.fleet.gap * 10 ≤ s.plantTime) ∧ 0 < s.fleet.gap ∧
      (∃ g, ({ s with lastGo := some 701 } : State).lastGo = some g ∧ s.plantTime < g + s.fleet.gap * 10) := by
  refine ⟨rfl, nofun, ?_, by decide, ⟨701, rfl, by decide⟩⟩
  intro g h
  cases h
  decide
theorem test_can_goGap : ∃ t, exec .departureGo { yard with departQ := [1], lastGo := some 700 } = .next t :=
  ⟨after .departureGo { yard with departQ := [1], lastGo := some 700 }, rfl⟩
theorem test_can_cut : tget yard.trains 2 = some (trainOf yard 2) ∧ (trainOf yard 2).state = .onRun ∧ tget yard.trains 3 = some (trainOf yard 3) ∧
    (trainOf yard 3).state = .holding := ⟨rfl, rfl, rfl, rfl⟩
/-- Train 1 with load 6: loop 0 can take it back, outside CLOSED and in it; loop 2's slot is taken. -/
theorem test_can_abandon : (trainOf yard 1).state = .ready ∧ (trainOf yard 1).load = some (aLoad 6 0 [aDrop 0 14 2 0 0 .pending]) ∧
    yard.slotEmpty 0 = true ∧ yard.slotEmpty 2 = false ∧ ({ yard with mode := .closed } : State).mode = .closed ∧
    (tget yard.calls 14).map Call.state = some .loaded ∧ yard.callIdsUnique := ⟨rfl, rfl, by decide, by decide +kernel, rfl, rfl, yard_callIdsUnique⟩
theorem test_can_charge : (trainOf yard 0).state = .parked ∧ yard.chargingCount < yard.fleet.chargers ∧ yard.chargeQ = [6] ∧
    ({ yard with fleet := { yard.fleet with chargers := 0 } } : State).fleet.chargers ≤ yard.chargingCount := by decide
theorem test_can_service : (trainOf yard 0).state = .parked ∧ (trainOf yard 6).state = .chargeWait ∧ (trainOf yard 0).hotBox = none ∧
    (trainOf yard 5).state = .outOfService ∧ (trainOf yard 5).location = .home ∧ ({ yard with mode := .closed } : State).mode = .closed ∧
    ({ trainOf yard 5 with location := .unknown } : Train).location ≠ .home := by decide
theorem test_can_dismiss : tget yard.trains 2 = some (trainOf yard 2) ∧ (trainOf yard 2).state = .onRun := ⟨rfl, rfl⟩
/-- One witness for each line of HOTCALL's table. -/
theorem test_can_hotcall : ¬ (1 ≤ 3 ∧ 3 ≤ 2) ∧ tget yard.trains 7 = none ∧ tget yard.slots 383 = none ∧ (trainOf yard 4).state = .coupling ∧
    (trainOf yard 5).state = .outOfService ∧ (slotOf 1).dfn.kind = .seq ∧ (slotOf 2).dfn.kind = .bulk ∧ (trainOf yard 0).state = .parked ∧
    (trainOf yard 0).hotBox = none ∧ (trainOf yard 0).shelf.length < 2 ∧ (1 : Int) ≤ yard.room 2 (slotOf 2) ∧ yard.room 2 (slotOf 2) < 2 ∧
    yard.hotIds.length < 255 := by decide
theorem test_can_notes : (trainOf yard 0).noteBox = some ⟨3, 1, some 2, 900⟩ ∧ (trainOf yard 1).noteBox = none ∧
    (trainOf yard 4).coupledAt = some 0 ∧ (trainOf yard 4).lateRep = false ∧ 0 + yard.fleet.coupleLimit * 10 ≤ yard.plantTime ∧
    (trainOf yard 1).state ≠ .coupling := by decide

def zoneOf (s : State) (i : Nat) : Zone := (tget s.zones i).getD (freshZone ⟨1, 0, 0⟩)
theorem test_can_zoneDef : zoneDefnInRange ⟨2, 8, 3600⟩ = true ∧ yard.store = .idle ∧ tget yard.zones 6 = some (zoneOf yard 6) ∧
    (zoneOf yard 6).occupants.length ≤ 2 ∧ tget yard.zones 15 = none ∧ tsorted yard.zones = true ∧ (10 : Nat) ≤ 600 ∧ (5 : Nat) ≤ 120 := by decide
theorem test_can_zones : (zoneOf yard 6).occupants.find? (fun x => x.train == 2) = some ⟨2, false, 300, none⟩ ∧
    (∃ o ∈ (zoneOf yard 6).occupants, o.train = 2 ∧ o.inside = false ∧ o.grantedAt + yard.grantLimit * 10 ≤ yard.plantTime) ∧
    yard.trainAlive 2 = true ∧ yard.trainAlive 4 = false ∧
    (∃ w ∈ (zoneOf yard 6).queue, w.train = 4 ∧ w.stalled = false ∧ w.joinedAt + yard.gateLimit * 10 ≤ yard.plantTime) ∧
    0 < (zoneOf yard 6).dfn.count ∧ (zoneOf yard 6).queue ≠ [] := by decide

/-- The train link between exchanges, and due. -/
theorem test_can_poll :
    let s := yard.setLink .train { yard.trainLink with exchange := none, lastAddr := some (trainAddress 2), sincePoll := some 250 }
    (s.link .train).exchange = none ∧ (∀ ms, (s.link .train).sincePoll = some ms → (s.link .train).interval ≤ ms) ∧
      (s.link .train).nextAddress = some (trainAddress 3) ∧ tsorted (s.link .train).terminals = true ∧ (yard.link .train).exchange.isSome := by
  refine ⟨rfl, ?_, by decide, by decide +kernel, rfl⟩
  intro ms h
  cases h
  decide
theorem test_can_poll_wraps : ∀ b ∈ tkeys yard.rackLink.terminals, ∀ p, yard.rackLink.lastAddr = some p → b ≤ p := by
  intro b hb p hp
  cases hp
  revert b
  decide
/-- The third miss of terminal 2 makes it LOST. -/
theorem test_can_miss : (yard.link .train).exchange = some (trainAddress 2) ∧
    tget (yard.link .train).terminals (trainAddress 2) = some ⟨true, 2, none, false⟩ ∧ 3 ≤ 2 + 1 ∧ (State.reset.link .rack).exchange = none ∧
    readFrame [0x5A#8, 0x00#8, 0x00#8, 0x00#8, 0x02#8, 0x01#8, 0x00#8, 0x00#8] = .frame false 0 0x02#8 0x01#8 [] ∧
    readFrame [0x00#8] = .none := by decide +kernel
theorem test_can_trainReply : yard.trainLink.exchange = some (trainAddress 2) ∧
    tget yard.trainLink.terminals (trainAddress 2) = some ⟨true, 2, none, false⟩ ∧ tget yard.trains 2 = some (trainOf yard 2) ∧
    (readTrainReport ([0x02#8, 0x00#8, 0x00#8, 0x07#8, 0x01#8] ++ bytes4 0 ++
      [0xFF#8, 0x00#8, 0x00#8, 0xFF#8, 0xFF#8, 0x00#8, 0xFF#8, 0xFF#8, 0xFF#8, 0x50#8, 0x01#8, 0x06#8])).isSome ∧
    (replyBody .train (trainAddress 2) [0x00#8]).bind readTrainReport = none ∧
    (replyBody .train (trainAddress 2) (frameBytes 0x09#8 0xC1#8 0 [])).bind readTrainReport = none ∧ State.reset.trainLink.exchange = none := by
  decide +kernel
/-- Counts at channel 3 that a pull, two pulls and a tally differ by from the baselines 41 and 6. -/
theorem test_can_rackReply : tsorted yard.slots = true ∧ yard.rackLink.exchange = some (rackAddress 7) ∧
    tget yard.rackLink.terminals (rackAddress 7) = some ⟨true, 0, none, false⟩ ∧ yard.slotAt 7 3 = some (0, slotOf 0) ∧
    ((readChannels 16 (List.replicate 12 0x00#8 ++ [byte 42, byte 6] ++ bytes2 0 ++ List.replicate 48 0x00#8)).bind (·[3]?)) = some (42, 6, 0) ∧
    (slotOf 0).pullBase = some 41 ∧ (slotOf 0).tallyBase = some 6 ∧ (42 + 256 - 41) % 256 = 1 ∧ 1 ≤ (slotOf 0).dfn.p ∧ (slotOf 0).dfn.kind = .bulk ∧
    (slotOf 2).dfn.rack.map (·.address) ≠ some 7 ∧ (replyBody .rack (rackAddress 7) [0x00#8]).bind (readChannels 16) = none ∧
    State.reset.rackLink.exchange = none := by decide

/-! ## Witnesses of the clauses on recomputations, calls, replies and zones -/

/-- The yard with one train changed. -/
def withTrain (i : Nat) (f : Train → Train) : State := yard.modTrain i f
/-- The yard with a full Call List. -/
def fullYard : State := { yard with calls := (List.range 512).map fun i => (i + 1, aCall 99 .cover 1 1 .opn none) }
theorem fullYard_full : fullYard.calls.length = 512 ∧ fullYard.callIdsUnique := by
  constructor
  · simp only [fullYard, List.length_map, List.length_range]
  · simp only [fullYard, State.callIdsUnique, tkeys, List.map_map]
    exact List.pairwise_map.2 (List.Pairwise.imp (fun h e => h (Nat.succ.inj e)) List.nodup_range)

theorem test_can_recompute : yard.callIdsUnique ∧ tsorted yard.slots = true ∧ (5 : Nat) ≠ yard.stations ∧
    ({ yard with mode := .closed } : State).mode ≠ .run := ⟨yard_callIdsUnique, by decide, by decide, nofun⟩
/-- A count that leaves no room for the OPEN COVER call of slot 0. -/
theorem test_can_trim : 0 < (-(yard.room 0 { slotOf 0 with f := 50 })).toNat := by decide
/-- Slot 2 asks for a COVER call, that of slot 0 can grow and, at 2 containers, not; slot 1 is SEQ; slot 2 full; the list full. -/
theorem test_can_cover : (slotOf 2).coverCondition = true ∧ yard.openCall 2 .cover = none ∧ 1 ≤ min ((slotOf 2).dfn.k : Int) (yard.room 2 (slotOf 2)) ∧
    yard.calls.length < 512 ∧ (slotOf 0).coverCondition = true ∧ (yard.openCall 0 .cover).map Prod.fst = some 10 ∧
    (1 : Int) < min ((slotOf 0).dfn.k : Int) (1 + yard.room 0 (slotOf 0)) ∧ min ((slotOf 0).dfn.k : Int) (2 + yard.room 0 (slotOf 0)) ≤ 2 ∧
    (slotOf 1).dfn.kind ≠ .bulk ∧ min ((slotOf 2).dfn.k : Int) (yard.room 2 { slotOf 2 with f := 50 }) < 1 := by decide
theorem test_can_cover_full : fullYard.openCall 2 .cover = none ∧ 512 ≤ fullYard.calls.length ∧ tget fullYard.slots 2 = some (slotOf 2) :=
  ⟨by decide +kernel, Nat.le_of_eq fullYard_full.1.symm, rfl⟩
/-- Two builds pending at slot 1, and one left after them; a slot with a larger Q has no set to call. -/
theorem test_can_sets : (slotOf 1).dfn.kind = .seq ∧ (slotOf 1).dfn.q = 2 ∧ (yard.pendingBuilds (slotOf 1)).length = 3 ∧
    (yard.pendingBuilds { slotOf 1 with setPointer := some 102 }).length < 2 ∧ (3 : Nat) < 4 ∧
    (∀ e ∈ ({ yard with calls := [] } : State).calls, e.2.slot ≠ 1) ∧
    (∀ e ∈ yard.calls, e ≠ (13, { aCall 1 .seq 1 2 .opn none with set := some (101, 102) }) → e.2.slot ≠ 1) := by decide
theorem test_can_planner : ∃ e post, yard.arbitration 0 = [] ++ e :: post ∧ tget yard.slots e.2.slot = some (slotOf 1) ∧
    yard.setsInOrder e.2 [] = true ∧ (fitCall (slotOf 1).dfn.size 1 e.2.containers []).isSome = true ∧ fitOne 2 0 [] = none :=
  ⟨(13, { aCall 1 .seq 1 2 .opn none with set := some (101, 102) }), [(10, aCall 0 .cover 1 10 .opn none)], by decide +kernel, rfl, by decide,
    by decide, rfl⟩
/-- A pick of 0 s at loop 0, with a train parked for it and without; a mask that lets nothing through. -/
theorem test_can_close_pick0 :
    let s := yard.modLoop 0 fun r => { r with dfn := { r.dfn with pick := 0 } }
    (s.pack 0 1).placed ≠ [] ∧ (loopOf s 0).dfn.pick = 0 ∧ 0 < (loopOf s 0).dfn.window ∧ s.parkedFor 0 = some 0 ∧
      ({ s with homeQ := [] } : State).parkedFor 0 = none ∧
      (({ s with mask := ⟨false, false, false, false⟩ } : State).pack 0 1).placed = [] := by decide +kernel

/-- Train 4 couples load 9 on a HELD loop, and on the AUTO loop 2; it has not been reported EARLY. -/
theorem test_can_coupledFlag : (trainOf yard 4).state = .coupling ∧ (trainOf yard 4).load.map Load.id = some 9 ∧
    yard.autoDispatch (trainOf yard 4) = false ∧ yard.autoDispatch { trainOf yard 4 with loop := some 2 } = true ∧
    (trainOf yard 4).earlyRep = false := by decide
/-- A GO, and two in one moment with a gap of 0. -/
theorem test_can_leave :
    let s : State := { yard with departQ := [1] }
    let u : State := { yard with departQ := [1, 0], fleet := { yard.fleet with gap := 0 } }
    ((tget (after .departureGo s).trains 1).map Train.state = some .onRun ∧ (trainOf s 1).state = .ready) ∧
      (tget (after .departureGo u).trains 0).map Train.state = some .onRun ∧ (tget (after .departureGo u).trains 1).map Train.state = some .onRun := by
  decide +kernel
/-- Train 1 in CLOSED with its load from loop 2, whose slot is taken; and READY with the LOADED call 14 aboard, outside PAUSE. -/
theorem test_can_return :
    ({ withTrain 1 (fun x => { x with load := some (aLoad 6 2 [aDrop 0 14 2 0 0 .pending]) }) with mode := .closed } : State).slotEmpty 2 = false ∧
    tget yard.calls 14 = some (aCall 2 .cover 1 10 .loaded (some 6)) ∧ (trainOf yard 1).state = .ready ∧ yard.mode ≠ .pause ∧
    0 < ((trainOf yard 1).drops.filter fun d => d.status != .dropped && d.call == 14).length := by decide +kernel
/-- Levels about the limits 25 and 90, at a PARKED, a CHARGING and another train; an UNPLACED train that comes home; a parked one away. -/
theorem test_can_battery : tsorted yard.trains = true ∧ (100 : Nat) < 101 ∧ 24 < yard.fleet.startLevel ∧ yard.fleet.endLevel ≤ 90 ∧
    (trainOf yard 0).state = .parked ∧ (trainOf (withTrain 0 fun x => { x with state := .charging }) 0).state = .charging ∧ 0 ∉ yard.chargeQ ∧
    (trainOf yard 1).state = .ready ∧ (trainOf (withTrain 5 fun x => { x with state := .unplaced }) 5).state = .unplaced ∧ 5 ∉ yard.homeQ ∧
    yard.batteryLow (trainOf yard 5) = false ∧ yard.batteryLow { trainOf yard 5 with battery := some 10 } = true ∧
    (Location.leg 0 ≠ .home ∧ Location.leg 0 ≠ .unknown) := by decide +kernel
theorem test_can_hot :
    let h : Hot := ⟨42, 88, 1, 20, 0, none, .box⟩
    (tget (slot88 25 1 (some h) []).trains 3).bind Train.hotBox = some h ∧ h.id = 42 ∧
      ((tget (slot88 25 1 none [h]).trains 3).map fun x => x.shelf.find? fun y => y.id == 42) = some (some h) ∧
      ((tget (slot88 25 1 none [h]).trains 3).map fun x => x.shelf.find? fun y => y.id == 41) = some none := by decide
theorem test_can_note : (trainOf yard 1).noteBox = none ∧ (trainOf yard 1).lastNoteNo = none ∧ (1 : Nat) ≤ 5 ∧ ¬ (1 ≤ 6 ∧ 6 ≤ 5) ∧
    (trainOf yard 0).noteBox ≠ none := by decide

/-- Wishes for zone 6 from a leg with its gate (waiting, and new to it) and from one without; for an undefined zone; an old wish. -/
theorem test_can_gate : tsorted yard.zones = true ∧ (trainOf yard 2).wish = ⟨some 6, (trainOf yard 2).leg⟩ ∧
    (zoneOf yard 6).holds 2 = true ∧ (zoneOf yard 6).holds 4 = false ∧ (zoneOf yard 6).waits 4 = true ∧ (zoneOf yard 6).holds 1 = false ∧
    (zoneOf yard 6).waits 1 = false ∧ (loopOf yard 0).dfn.gates[1]? = some [6] ∧ (loopOf yard 0).dfn.gates[0]? = some [] ∧
    (trainOf (withTrain 4 fun x => { x with leg := some 1 }) 4).leg = some 1 ∧ tget yard.zones 9 = none := by decide
theorem test_can_held : (zoneOf yard 6).occupants.find? (fun o => o.train == 3) = some ⟨3, true, 200, none⟩ ∧
    (zoneOf yard 6).occupants.find? (fun o => o.train == 2) = some ⟨2, false, 300, none⟩ ∧ (zoneOf yard 6).holds 0 = false := by decide

/-- Train 1's drop of the LOADED call 14, with each status; behind an earlier drop of a SEQ call, waiting and CARRIED. -/
theorem test_can_done : (aLoad 6 0 [aDrop 0 14 2 0 0 .pending]).drops.find? (fun e => e.index == 0) = some (aDrop 0 14 2 0 0 .pending) ∧
    DropStatus.pending.waits = true ∧ DropStatus.go.waits = true ∧ DropStatus.hold.waits = true ∧ DropStatus.carried.waits = false ∧
    (aDrop 0 14 2 0 0 .carried).lateRep = false ∧ (aDrop 0 14 2 0 0 .pending).orderRep = false ∧
    (∀ st ∈ [DropStatus.go, .carried], ({ yard with calls := [(14, aCall 2 .seq 1 2 .loaded (some 6))] } : State).earlierUndone
      (aLoad 6 0 [aDrop 0 14 2 0 0 st, aDrop 1 14 2 0 2 .pending]) (aDrop 1 14 2 0 2 .pending) = [aDrop 0 14 2 0 0 st]) := by decide
/-- The last drop of the last stop of a HOLD loop; and a load with drops to mark. -/
theorem test_can_lastDrop : yard.holdsAtEnd (trainOf yard 3) = true ∧ (trainOf yard 3).place = some (.stop (yard.stopsOf (trainOf yard 3) - 1)) ∧
    0 < yard.stopsOf (trainOf yard 3) ∧ ([aDrop 0 16 2 1 0 .pending] : List Drop)[0]? = some (aDrop 0 16 2 1 0 .pending) := by decide
/-- Train 2 at LEG 0 of two stops, never from home; the same train back from its run; train 3 HOLDING at the last stop. -/
theorem test_can_location : (trainOf yard 2).state = .onRun ∧ (trainOf yard 2).place = some (.leg 0) ∧ (trainOf yard 2).leftHome = false ∧
    (trainOf yard 2).ahead (yard.stopsOf (trainOf yard 2)) (.stop 0) = true ∧ (trainOf yard 2).ahead (yard.stopsOf (trainOf yard 2)) (.leg 2) = true ∧
    (trainOf yard 2).ahead (yard.stopsOf (trainOf yard 2)) (.leg 0) = false ∧
    (trainOf (withTrain 2 fun x => { x with leftHome := true }) 2).leftHome = true ∧ 2 ∉ yard.homeQ ∧
    (Place.leg 0).rank < 2 * yard.stopsOf (trainOf yard 2) + 1 ∧ (trainOf yard 3).state = .holding ∧
    (trainOf yard 3).ahead (yard.stopsOf (trainOf yard 3)) (.leg 2) = true ∧ (Location.leg 2).place = some (.leg 2) ∧
    ({ yard with mode := .closed } : State).mode = .closed ∧ (tget yard.calls 14).map Call.state = some .loaded := by decide

/-- Pulls at slot 0 (no PULL call), at a slot with one OPEN, at one without room, at a SEQ slot; owed pulls; the list full. -/
theorem test_can_pull : (slotOf 0).dfn.kind = .bulk ∧ (slotOf 0).owed = 0 ∧ (slotOf 0).counted = true ∧ yard.openCall 0 .pull = none ∧
    1 ≤ yard.room 0 { slotOf 0 with f := min (slotOf 0).f ((ceilDiv (slotOf 0).f (slotOf 0).dfn.q - 1) * (slotOf 0).dfn.q) } ∧
    ((({ yard with calls := [(11, aCall 3 .pull 1 10 .opn none)] } : State).openCall 3 .pull).map Prod.fst) = some 11 ∧
    yard.room 2 { slotOf 2 with f := 40 } < 1 ∧ (slotOf 1).dfn.kind = .seq ∧ 0 < ({ slotOf 0 with owed := 2 } : Slot).owed ∧
    0 < min 2 (yard.room 0 (slotOf 0)).toNat := by decide
theorem test_can_pull_full : fullYard.callIdsUnique ∧ fullYard.openCall 0 .pull = none ∧ 512 ≤ fullYard.calls.length :=
  ⟨fullYard_full.2, by decide +kernel, Nat.le_of_eq fullYard_full.1.symm⟩

/-! ## Witnesses of the clauses on queues, redefinitions, closes and loads given back -/

/-- The yard with a train in each queue, a pending command, and records at their bounds: 2 hot orders, 2 pending requests, 2 misses. -/
def queued : State := { (withTrain 0 fun x => { x with shelf := [⟨1, 0, 1, 10, 0, none, .shelf⟩, ⟨2, 0, 1, 10, 0, none, .shelf⟩] }).modLoop 0
    (fun r => { r with waiting := [.times 1, .continuous] }) with departQ := [1], pending := [.departureGo] }
theorem test_can_keepQueues : queued.sorted ∧ queued.recordsBounded ∧ queued.queuesKept ∧ ∃ t, step queued = .next t := by
  refine ⟨?_, ⟨by decide, by decide, ?_⟩, ?_, ⟨_, rfl⟩⟩
  · unfold State.sorted; decide
  · intro l
    cases l <;> decide
  · unfold State.queuesKept State.queueOf; decide

/-- The due time of slot 2 (Cr 4095), where the sum is FFFFFFFEh and where it is FFFFFFFFh. -/
theorem test_due_stops_before_held :
    let late (n : Nat) : State := { yard with plantTime := n - 4095 * yard.takt }
    ((late 4294967294).recomputed 2 (slotOf 2)).due = 4294967294 ∧ (late 4294967295).plantTime + 4095 * yard.takt = 4294967295 ∧
      ((late 4294967295).recomputed 2 (slotOf 2)).due = 4294967294 := by decide +kernel

/-- Slot 3 SUSPENDED takes the whole load of loop 2 with it; with a drop of another slot aboard it does not. -/
theorem test_can_suspend : yard.callIdsUnique ∧ (slotOf 3).dfn.loop = 2 ∧ (slotOf 3).dfn.state = .active ∧ (loopOf yard 2).window ≠ .closeWait ∧
    (∀ d ∈ (aLoad 5 2 [aDrop 0 11 3 0 0 .pending, aDrop 1 12 3 0 2 .pending]).drops, ∃ c, tget yard.calls d.call = some c ∧ c.slot = 3 ∧
      c.state = .planned) ∧
    (tget yard.calls 10).map (fun c => (c.slot, c.state)) = some (0, .opn) := by
  refine ⟨yard_callIdsUnique, rfl, rfl, nofun, ?_, rfl⟩
  intro d hd
  simp only [aLoad, List.mem_cons, List.not_mem_nil, or_false] at hd
  rcases hd with rfl | rfl <;> exact ⟨_, rfl, rfl, rfl⟩

/-- Loop 1 INTERNAL with a request, and slot 0 on it: redefined with the same source, and with the very definition it has. -/
def asking : State := (yard.modSlot 0 fun x => { x with dfn := { x.dfn with loop := 1 } }).modLoop 1 fun r =>
  { r with dfn := { r.dfn with source := .internal }, active := some .continuous }
def same : LoopDefArgs := ⟨1, 2, 1, 300, 600, 300, 60, 0, 0, 0, [[], [6], []]⟩
theorem test_can_redefine : asking.loopDefinable same = true ∧ loopDefInRange same = true ∧ asking.store = .idle ∧
    (loopOf asking 1).dfn = loopDefDefn same ∧ (loopOf asking 1).dfn ≠ loopDefDefn { same with lead := 61 } ∧
    (loopOf asking 1).dfn.source = (loopDefDefn { same with lead := 61 }).source ∧ (loopOf asking 1).active.isSome ∧
    (loopOf asking 1).lastOpen = none ∧ asking.modeOpens 1 = true ∧ 0 < (loopDefDefn same).window ∧
    (loopOf (asking.modLoop 1 fun r => { r with active := none }) 1).active = none ∧ asking.callIdsUnique ∧ tsorted asking.slots = true ∧
    (tget asking.slots 0).map (·.dfn.loop) = some 1 := by
  refine ⟨?_, ?_, ?_, ?_, ?_, ?_, ?_, ?_, ?_, ?_, ?_, yard_callIdsUnique, ?_, ?_⟩ <;> decide

/-- An EXTERNAL window that closes with a call placed and with none; a window and a pick of 0 s, with a request left for another window
(`again`) and without. -/
theorem test_can_close_answers :
    let s := (asking.modLoop 1 fun r => { r with dfn := { r.dfn with source := .external }, window := .opn })
    let z (n : Nat) := yard.modLoop 0 fun r => { r with dfn := { r.dfn with window := 0, pick := 0 }, active := some (.times n) }
    (s.pack 1 1).placed ≠ [] ∧ (({ s with mask := ⟨false, false, false, false⟩ } : State).pack 1 1).placed = [] ∧
      (loopOf s 1).dfn.source = .external ∧ (loopOf s 1).window = .opn ∧ (loopOf s 1).slot = .empty ∧
      ((z 1).pack 0 1).placed ≠ [] ∧ (loopOf (z 1) 0).waiting.head? = none ∧ 1 < 2 ∧ (loopOf (z 2) 0).lastOpen = none ∧
      (z 1).parkedFor 0 = some 0 := by decide +kernel

/-- In RUN: train 0 of loop 0 is first to couple the load that train 1 gives back; load 6 of loop 2, whose slot is taken, is dissolved;
train 1 at the head of the departure queue; and a COVER call aboard, so that in PAUSE no window opens. -/
theorem test_can_give_back : yard.mode = .run ∧ yard.homeQ ++ [1] = [] ++ 0 :: [1] ∧ (trainOf yard 0).loop = some 0 ∧
    (loopOf yard 0).window ≠ .closeWait ∧ yard.departQ.head? = none ∧
    (∀ other, (loopOf yard 2).slot ≠ .staged other) ∧ queued.departQ.head? = some 1 ∧
    (trainOf (withTrain 0 fun x => { x with loop := none }) 0).loop = none ∧
    (∀ c, tget yard.calls 14 = some c → c.cls ≠ .expedite) := by
  refine ⟨rfl, rfl, rfl, nofun, rfl, fun _ => nofun, rfl, rfl, ?_⟩
  intro c h
  cases h
  nofun

/-- New fleet settings with a train that charges and is full, one that is not, one that waits, one that may go and one that may not. -/
theorem test_can_fleet_acts :
    let s : State := { queued.modTrain 5 (fun x => { x with state := .charging, battery := some 95 }) with pending := [] }
    s.chargingCount ≤ 1 ∧ (trainOf s 5).state = .charging ∧ (90 : Nat) ≤ 95 ∧ 6 ∈ s.chargeQ ∧ (trainOf s 6).state = .chargeWait ∧
      1 ∈ s.departQ ∧ (trainOf s 1).state = .ready ∧ s.lastGo = none ∧ s.mode ≠ .closed ∧
      ({ s with lastGo := some 1000 } : State).plantTime < 1000 + 30 * 10 ∧ s.sorted ∧ s.queuesKept := by
  refine ⟨?_, ?_, ?_, ?_, ?_, ?_, ?_, ?_, ?_, ?_, ?_, ?_⟩
  all_goals first | decide | (unfold State.sorted; decide) | (unfold State.queuesKept State.queueOf; decide)
/-- Train 0, parked, is given the loop of a STAGED load. -/
theorem test_can_assign_couples :
    let s := yard.modLoop 2 fun r => { r with slot := .staged (aLoad 5 2 [aDrop 0 11 3 0 0 .pending]) }
    (trainOf s 0).state = .parked ∧ s.mode ≠ .closed ∧ (s.modTrain 0 fun y => { y with loop := some 2 }).parkedFor 2 = some 0 ∧
      yard.parkedFor 2 = none := by decide +kernel
/-- Train 3 home in RUN, to a loop whose load slot is EMPTY, so that nothing closes. -/
theorem test_can_home_in_run : yard.mode = .run ∧ (trainOf yard 3).loop = some 0 ∧ (loopOf yard 0).slot = .empty ∧
    yard.batteryLow (trainOf yard 3) = false := ⟨rfl, rfl, rfl, rfl⟩

/-! ## A reply that couples and shows its train away (9.6); the occupants of a STALL (7.8); CANCEL of a load's last call (4.8) -/

/-- Log entry 37: the train is READY when its location is judged, so DEPART EARLY is sent and LEG 1 not taken; the GO follows. -/
theorem test_coupled_away :
    let t := after (.trainReply (frameBytes (byte (trainAddress 4)) 0xC1#8 0 ([0x01#8, 0x01#8, 0x00#8, 0x09#8, 0x01#8] ++ bytes4 0 ++
        [0xFF#8, 0x00#8, 0x00#8, 0xFF#8, 0xFF#8, 0x00#8, 0xFF#8, 0xFF#8, 0xFF#8, 0x50#8, 0x00#8])))
      { yard.modTrain 4 (fun x => { x with loop := some 2 }) with
        trainLink := { FieldLink.fresh 250 with
          terminals := [(trainAddress 4, ⟨true, 0, none, false⟩)], exchange := some (trainAddress 4) } }
    (tget t.trains 4).map (fun x => (x.state, x.place, x.location, x.earlyRep)) = some (.onRun, some (.leg 0), .leg 1, true) := by
  decide +kernel
theorem test_stall_lists_occupants : (after (.gateStall 6 4) yard).reportQueue.getLast?.map (fun r => (r.items.drop 6).take 9) =
    some [.count 2, .small (some 3), .code (some 1), .time (some 200), .time none, .small (some 2), .code (some 0), .time (some 300),
      .time none] := by decide
/-- Call 11 is the load's one call: its load goes with it, and no state is left to answer. -/
theorem test_cancel_last_call : answer (after (.cancel 1 (.ok 11)) { yard with
    loops := [(2, aLoop .internal .auto .auto .shut (.staged (aLoad 5 2 [aDrop 0 11 3 0 0 .pending])))] }) =
    some (.accept [.half (some 11), .code (some 1), .code none]) := by decide +kernel
/-- The order taken stands in the record of the last hot order with its place on the shelf. -/
theorem test_taken_order_on_shelf : ((tget ((slot88 25 1 (some ⟨42, 88, 1, 20, 0, none, .box⟩) []).hotTaken 3 42).trains 3).bind
    Train.lastHot).map (fun h => (h.order.place, h.way)) = some (.shelf, .taken) := by decide

/-! ## Loads and calls that agree: the premises of the returns of containers -/

/-- The yard with a LOADED call for every load aboard a train. -/
def loaded : State := { yard with
  calls := yard.calls ++ [(15, aCall 2 .cover 1 10 .loaded (some 7)), (17, aCall 2 .cover 1 10 .loaded (some 9))] }
theorem test_can_keepLoads : loaded.sorted ∧ loaded.callIdsUnique ∧ loaded.callsFilled ∧ loaded.aboardKept ∧ loaded.slotLoadsKept ∧
    (trainOf loaded 2).aboard ≠ [] ∧ (loopOf loaded 2).slotDrops ≠ [] ∧
    ∃ t, step { loaded with pending := [.pickExpiry 2] } = .next t := by
  refine ⟨?_, ?_, ?_, ?_, ?_, by decide, by decide, ⟨_, rfl⟩⟩
  · unfold State.sorted; decide
  · unfold State.callIdsUnique; decide
  · unfold State.callsFilled; decide
  · unfold State.aboardKept State.callHolds; decide
  · unfold State.slotLoadsKept State.callIn State.callHolds; decide
/-- A close with a pick of 0 s and a train parked; a load given back with its slot taken; DISMISS; arrival home: each call as it must be. -/
theorem test_can_loads_agree : (yard.modLoop 0 fun r => { r with dfn := { r.dfn with pick := 0 } }).callsFilled ∧
    (∀ d ∈ (aLoad 6 2 [aDrop 0 14 2 0 0 .pending]).drops, yard.callIn d.call .loaded) ∧
    (∀ d ∈ (trainOf yard 1).aboard, yard.callIn d.call .loaded) ∧
    ∀ d ∈ (trainOf (withTrain 2 fun x => { x with load := some (aLoad 7 0 [aDrop 0 14 2 0 0 .carried]) }) 2).aboard,
      yard.callIn d.call .loaded := by
  unfold State.callsFilled State.callIn; decide

/-- Call 14 is aboard train 1 in load 6; the DROPPED drop of train 3 in load 8 is of an older call with the same id. -/
theorem test_drops_of_own_load : (withTrain 3 fun x => { x with load := some (aLoad 8 0 [aDrop 0 14 2 1 0 .dropped]) }).dropsOfCall 14
    (aCall 2 .cover 1 10 .loaded (some 6)) = [aDrop 0 14 2 0 0 .pending] := by decide

/-- 8.5: train 1, its terminal record made anew since the poll, offers note 5; it is taken where the poll answered showed the box empty. -/
theorem test_note_by_poll :
    let offers (shown : Bool) := (tget (after (.trainReply (frameBytes (byte (trainAddress 1)) 0xC1#8 0 ([0x00#8, 0x00#8, 0x00#8, 0x00#8,
        0x00#8] ++ bytes4 0 ++ [0xFF#8, 0x00#8, 0x00#8, 0x00#8, 0x00#8, 0x05#8, 0x01#8, 0x00#8, 0x02#8, 0x50#8, 0x00#8]))) { yard with
      trainLink := { FieldLink.fresh 250 with
        terminals := [(trainAddress 1, ⟨false, 0, none, false⟩)], exchange := some (trainAddress 1), pollShown := shown } }).trains 1).bind
      Train.noteBox
    offers true = none ∧ offers false = some ⟨5, 1, some 2, 1000⟩ := by decide +kernel

end Sys2Proof.Tests
end

/-! SUPPORT. O27: what an ADVANCE does to the line, apart from the stocks it consumes. -/

namespace Sys2Proof.Machine

variable {s : State}

/-- An acceptance works on the sent telegrams and the request queue alone, which the frame of the slots keeps. -/
theorem beyondSlots_accepted (kind tag : Byte) (body : Body) :
    (s.accepted kind tag body).beyondSlots = s.beyondSlots.accepted kind tag body := by
  unfold State.accepted State.leaveQueue
  have kept : (s.beyondSlots.reply kind tag (.accept body)).requestQueue = (s.reply kind tag (.accept body)).requestQueue := rfl
  rw [kept]
  split
  · split <;> rfl
  · rfl

/-- States equal beyond the slots stay so when both send the same acceptance. -/
theorem beyondSlots_accepted_congr {t : State} (kind tag : Byte) (body : Body) (h : t.beyondSlots = s.beyondSlots) :
    (t.accepted kind tag body).beyondSlots = (s.accepted kind tag body).beyondSlots := by
  rw [beyondSlots_accepted, beyondSlots_accepted, h]

/-- R10 with the gap flag: the line moves one on behind an empty pitch, and the Announced Queue stays. -/
theorem shiftLine_gap : s.shiftLine true = { s with lineArray := none :: s.lineArray.dropLast } := rfl

/-- R10 without it: the head of the Announced Queue, or an empty pitch where there is none, enters at position 0. -/
theorem shiftLine_load : s.shiftLine false =
    { s with lineArray := s.announced.head? :: s.lineArray.dropLast, announced := s.announced.tail } := by
  unfold State.shiftLine
  cases s.announced with
  | nil => rfl
  | cons b rest => rfl

/-- R10 to R12: what an ADVANCE changes beyond the slots is the shift of the line. -/
theorem advanceAct_beyondSlots (gap : Option Nat) :
    (advanceAct s gap).1.beyondSlots = (s.shiftLine (gap == some 1)).beyondSlots :=
  (beyondSlots_recomputeAll _).trans consumeAll_frame

/-- R9: an ADVANCE in RUN with a gap flag in range is taken. -/
theorem advanceCheck_none {gap : Option Nat} (hmode : s.mode = .run) (hgap : gap.getD 0 ≤ 1) : advanceCheck s gap = none :=
  firstFail_none.mpr (by simp [hmode, hgap])

/-- An ADVANCE that its check lets through is answered with the effect of R10 to R12. -/
theorem exec_advance_taken {gap : Option Nat} (tag : Byte) (h : advanceCheck s gap = none) :
    exec (.advance tag (.ok gap)) s = .next ((advanceAct s gap).1.accepted 0x05#8 tag (advanceAct s gap).2) :=
  congrArg Host.Outcome.next (serve_ok h)

/-- Settles O27: beyond the slots an ADVANCE is the shift of the line alone, whose two forms differ by the gap flag. -/
theorem advanceMovesLine : Obligations.AdvanceMovesLine := by
  intro s tag gap hmode hgap
  refine ⟨_, _, exec_advance_taken tag (advanceCheck_none hmode hgap), beyondSlots_accepted_congr _ _ _ ?_⟩
  rw [advanceAct_beyondSlots]
  by_cases h : gap = some 1
  · subst h
    rw [beq_self_eq_true, shiftLine_gap]
    rfl
  · rw [beq_eq_false_iff_ne.mpr h, shiftLine_load]
    simp only [h, if_false]

end Sys2Proof.Machine

/-! SUPPORT. O53: the refusal table of HOTCALL, row by row. -/

namespace Sys2Proof.Machine

variable {s : State} {a : HotArgs} {x : Train} {sl : Slot} {i : Nat}

/-! ## A refusal table, one row at a time -/

theorem firstFail_pass {ok : Bool} {r : Reason} {rows : List (Bool × Reason)} (h : ok = true) :
    firstFail ((ok, r) :: rows) = firstFail rows := if_pos h

theorem firstFail_fail {ok : Bool} {r : Reason} {rows : List (Bool × Reason)} (h : ¬ ok = true) :
    firstFail ((ok, r) :: rows) = some r := if_neg h

/-- A row read by what fails it. -/
theorem firstFail_unless {ok : Bool} {bad : Prop} [Decidable bad] {r : Reason} {rows : List (Bool × Reason)}
    (h : ok = true ↔ ¬ bad) : firstFail ((ok, r) :: rows) = if bad then some r else firstFail rows := by
  split
  case isTrue hbad => exact firstFail_fail fun hok => h.mp hok hbad
  case isFalse hgood => exact firstFail_pass (h.mpr hgood)

/-! ## What the conditions on a defined train and slot say of their records -/

/-- R114: a defined train is free where it is neither COUPLING nor CHARGING. -/
theorem trainFree_iff (hx : tget s.trains i = some x) :
    s.trainFree i = true ↔ ¬ (x.state = .coupling ∨ x.state = .charging) := by
  unfold State.trainFree State.trainState
  rw [hx]
  cases hstate : x.state <;> simp [hstate, TrainState.busy]

/-- R114: a defined train stands in a listed state where its record's state is listed. -/
theorem trainIn_iff (hx : tget s.trains i = some x) (states : List TrainState) :
    s.trainIn i states = true ↔ x.state ∈ states := by
  simp [State.trainIn, State.trainState, hx]

theorem roomOf_defined (hs : tget s.slots i = some sl) : s.roomOf i = s.room i sl := by
  simp [State.roomOf, hs]

theorem kind_bulk_iff : (sl.dfn.kind == .bulk) = true ↔ ¬ sl.dfn.kind = .seq := by
  cases sl.dfn.kind <;> decide

/-! ## R154: what the check finds -/

/-- R154, row 2: the ids and the count lie in their ranges. -/
def HotcallInRange (a : HotArgs) : Prop := a.train ≤ 7 ∧ a.slot ≤ 383 ∧ 1 ≤ a.count ∧ a.count ≤ 2

/-- The model's condition of row 2 is `HotcallInRange`. -/
theorem hotcallInRange_iff :
    (decide (a.train ≤ 7) && decide (a.slot ≤ 383) && within 1 2 a.count) = true ↔ HotcallInRange a := by
  simp [within, HotcallInRange, and_assoc]

theorem hotcallCheck_range (h : ¬ HotcallInRange a) : hotcallCheck s a = some .range :=
  firstFail_fail fun ok => h (hotcallInRange_iff.mp ok)

theorem hotcallCheck_undefined (hr : HotcallInRange a) (h : tget s.trains a.train = none ∨ tget s.slots a.slot = none) :
    hotcallCheck s a = some .undefined := by
  have missing : ¬ (tdefined s.trains a.train && tdefined s.slots a.slot) = true := by
    rcases h with h | h <;> simp [tdefined, h]
  exact (firstFail_pass (hotcallInRange_iff.mpr hr)).trans (firstFail_fail missing)

/-- R154, rows 4 to 8: the table of a request in range whose train and slot are defined, read off their records. -/
theorem hotcallCheck_defined (hr : HotcallInRange a) (hx : tget s.trains a.train = some x)
    (hs : tget s.slots a.slot = some sl) :
    hotcallCheck s a =
      if x.state = .coupling ∨ x.state = .charging then some .busy
      else if x.state = .unplaced ∨ x.state = .outOfService ∨ sl.dfn.kind = .seq then some .state
      else if x.hotBox.isSome then some .boxFull
      else if 2 ≤ x.shelf.length then some .shelfFull
      else if s.room a.slot sl < a.count then some .noRoom
      else none := by
  have defined : (tdefined s.trains a.train && tdefined s.slots a.slot) = true := by simp [tdefined, hx, hs]
  have fit : (!s.trainIn a.train [.unplaced, .outOfService] && sl.dfn.kind == .bulk) = true ↔
      ¬ (x.state = .unplaced ∨ x.state = .outOfService ∨ sl.dfn.kind = .seq) := by
    rw [Bool.and_eq_true, kind_bulk_iff, Bool.not_eq_true', ← Bool.not_eq_true, trainIn_iff hx]
    simp [and_assoc]
  unfold hotcallCheck
  rw [firstFail_pass (hotcallInRange_iff.mpr hr), firstFail_pass defined, firstFail_unless (trainFree_iff hx), hx, hs,
    roomOf_defined hs]
  rw [firstFail_unless fit, firstFail_unless (bad := x.hotBox.isSome) (by simp),
    firstFail_unless (bad := 2 ≤ x.shelf.length) (by simp), firstFail_unless (bad := s.room a.slot sl < a.count) (by simp)]
  rfl

/-! ## The answer to a judged HOTCALL -/

theorem exec_hotcall_refused {r : Reason} (tag : Byte) (h : hotcallCheck s a = some r) :
    exec (.hotcall tag (.ok a)) s = .next (s.refusedWith 0x29#8 tag r) :=
  congrArg Host.Outcome.next (serve_refused h)

theorem exec_hotcall_taken (tag : Byte) (h : hotcallCheck s a = none) :
    exec (.hotcall tag (.ok a)) s = .next ((hotcallAct s a).1.accepted 0x29#8 tag (hotcallAct s a).2) :=
  congrArg Host.Outcome.next (serve_ok h)

/-- R155: a taken HOTCALL is answered at once, and sends no report beside the reply. -/
theorem hotcallAct_accepted_sent (tag : Byte) (body : Body) :
    ((hotcallAct s a).1.accepted 0x29#8 tag body).sent = s.sent ++ [.reply ⟨0x29#8, tag, .accept body⟩] := by
  obtain ⟨-, -, sent, -⟩ := accepted_outer (s := (hotcallAct s a).1) (kind := 0x29#8) (tag := tag) body
  rw [sent, show (hotcallAct s a).1.sent = s.sent from congrArg Outer.sent (hotcallAct_outer a)]

/-- Settles O53: each line of R154 from what the check finds there. -/
theorem hotcallJudgedInOrder : Obligations.HotcallJudgedInOrder := by
  intro s tag
  refine ⟨rfl, fun a => ⟨fun h => exec_hotcall_refused tag (hotcallCheck_range h),
    fun hr h => exec_hotcall_refused tag (hotcallCheck_undefined hr h), fun x sl hr hx hs => ?_⟩⟩
  have table := hotcallCheck_defined hr hx hs
  refine ⟨fun busy => exec_hotcall_refused tag ?busy, fun free wrong => exec_hotcall_refused tag ?state,
    fun free fit full => exec_hotcall_refused tag ?boxFull, fun free fit empty full => exec_hotcall_refused tag ?shelfFull,
    fun free fit empty space short => exec_hotcall_refused tag ?noRoom, fun free fit empty space room => ?taken⟩
  case busy => rw [table, if_pos busy]
  case state => rw [table, if_neg free, if_pos wrong]
  case boxFull => rw [table, if_neg free, if_neg fit, if_pos full]
  case shelfFull => rw [table, if_neg free, if_neg fit, if_neg (by simp [empty]), if_pos full]
  case noRoom => rw [table, if_neg free, if_neg fit, if_neg (by simp [empty]), if_neg (Nat.not_le.mpr space), if_pos short]
  case taken =>
    rw [if_neg free, if_neg fit, if_neg (by simp [empty]), if_neg (Nat.not_le.mpr space), if_neg (Int.not_lt.mpr room)] at table
    exact ⟨_, _, exec_hotcall_taken tag table, hotcallAct_accepted_sent tag _⟩

end Sys2Proof.Machine
